-- ==== Sys2Proof/Word.lean ====
section
/-! DEFINITION. The word types of the EIMU serial frame codec (rules R8, R10): bytes, binary32 bit
patterns, the packed 24-bit descriptor header. Nothing in the block is signed (R8). -/

namespace Sys2Proof

/-- A byte: 8 bits, unsigned, 0..255 (R8). -/
abbrev Byte := BitVec 8

/-- A binary32 bit pattern: 32 bits that the block transports and never interprets (R22, R144). -/
abbrev F32 := BitVec 32

/-- The 24-bit header of a packed operation descriptor (R102). -/
abbrev Header := BitVec 24

end Sys2Proof
end

