-- ==== Sys2Proof/Config.lean ====
section
/-! DEFINITION. What an implementation fixes (R7): the constants the spec states, and the OPEN
parameters and free values, which are opaque constants that no proof can see. -/

namespace Sys2Proof

/-- What the environment (transport and device, R6) does at one transport primitive or device turn.
One record serves every primitive; each reads only the fields its rule gives it (R66 to R72). -/
structure Answer where
  /-- The primitive returns `Fault`; in a read, the wait ends by a fault and not by the window (R68, R84). -/
  fault : Bool
  /-- Bytes the device appends to `rxq` meanwhile (R72); after `Open` and reset, what `rxq` holds (R70, R291). -/
  arrive : List Byte
  /-- How many bytes of an unspecified amount were appended, sent or dropped (R66, R71). -/
  sent : Nat
  /-- What `txq` holds just after `Open` and after reset (R70, R291). -/
  leftover : List Byte
  /-- Whether the transport is open after reset (R291). -/
  isOpen : Bool
  /-- What is on the wire after reset (R291). -/
  wire : List Byte
deriving DecidableEq, Repr, Inhabited

/-- The three request shapes (R95 to R98). -/
inductive Shape where
  /-- (a) no payload -/
  | a
  /-- (b) position byte and one float -/
  | b
  /-- (c) three floats -/
  | c
deriving DecidableEq, Repr, Inhabited

/-- The number of payload bytes of a request shape (R96 to R98). -/
def Shape.payloadSize : Shape → Nat
  | .a => 0
  | .b => 5
  | .c => 12

/-- The reply arities that shape (a) goes with (R221). -/
inductive ReadArity where
  | one | two | three | four | six | eight | nine
deriving DecidableEq, Repr, Inhabited

def ReadArity.toNat : ReadArity → Nat
  | .one => 1
  | .two => 2
  | .three => 3
  | .four => 4
  | .six => 6
  | .eight => 8
  | .nine => 9

/-- A registry entry; only the combinations of R221 can be written. -/
inductive RegEntry where
  | read (n : ReadArity)
  | indexed
  | vector
deriving DecidableEq, Repr, Inhabited

def RegEntry.shape : RegEntry → Shape
  | .read _ => .a
  | .indexed => .b
  | .vector => .c

/-- The reply arity of a registry entry (R221). -/
def RegEntry.arity : RegEntry → Nat
  | .read n => n.toNat
  | .indexed => 1
  | .vector => 0

/-- The commands of R222 whose ids the source does not give. -/
inductive CmdName where
  | readAccel | readGyro | readMag | readAccelGyro | readImuData
  | getFilterGain | getCutoff | setFilterGain | setI2CAddress | setWorldFrameId
  | getI2CAddress | resetParams | clearBuffer | writeOffset
deriving DecidableEq, Repr, Inhabited

/-- The host's post-decode transforms (R227 to R230). -/
inductive Transform where
  | round6 | round3 | trunc | ack
  /-- None: the value is returned as it is (R222, vector writes). -/
  | plain
deriving DecidableEq, Repr, Inhabited

/-- The magnetometer quantities of R222. -/
inductive MagItem where
  | raw | offset | variance | scaleMatrix
deriving DecidableEq, Repr, Inhabited

/-- The magnetometer operations that R222 names as a group, with nothing else said of them: a read or a
write of one of the quantities. How many commands serve one quantity is open, so they are numbered
(DESIGN CHOICE, safe: log entry 15). -/
structure MagOp where
  item : MagItem
  isWrite : Bool
  part : Nat
deriving DecidableEq, Repr, Inhabited

/-- The parameter slots that a position byte selects (R97, `POS(slot)` of R7): one for each parameter
that is read and set, and one of its own for each other operation that may send a position byte
(log entry 15). -/
inductive Slot where
  | filterGain | cutoff | i2cAddress | worldFrameId | resetParams | clearBuffer
  | magnetometer (o : MagOp)
deriving DecidableEq, Repr, Inhabited

/-- The registry entries that R222 admits for a command: of `getI2CAddress`, `resetParams` and
`clearBuffer` it leaves the shape open, (a) or (b), and states one value back. -/
def CmdName.admits : CmdName → RegEntry → Bool
  | .readAccel, e => e = .read .three
  | .readGyro, e => e = .read .three
  | .readMag, e => e = .read .three
  | .readAccelGyro, e => e = .read .six
  | .readImuData, e => e = .read .nine
  | .getFilterGain, e => e = .indexed
  | .getCutoff, e => e = .indexed
  | .setFilterGain, e => e = .indexed
  | .setI2CAddress, e => e = .indexed
  | .setWorldFrameId, e => e = .indexed
  | .getI2CAddress, e => e = .indexed || e = .read .one
  | .resetParams, e => e = .indexed || e = .read .one
  | .clearBuffer, e => e = .indexed || e = .read .one
  | .writeOffset, e => e = .vector

/-- Where the registry lists an id, in an order of the ids `0x03` to `0x34`: place 0 is `PROBE_CMD`, the
others are the ids that the source leaves open (R220; log entry 15). -/
abbrev Place := Fin 50

/-- A place whose entry a command is sure to admit. -/
def CmdName.sure : CmdName → Place
  | .readAccel => 1
  | .readGyro => 1
  | .readMag => 1
  | .readAccelGyro => 2
  | .readImuData => 3
  | .getFilterGain => 4
  | .getCutoff => 4
  | .setFilterGain => 4
  | .setI2CAddress => 4
  | .setWorldFrameId => 4
  | .getI2CAddress => 4
  | .resetParams => 4
  | .clearBuffer => 4
  | .writeOffset => 5

/-- Number formats in which a host may deliver a rounded result (R7 `RESULT_FMT`): binary64, the
default, or another one, of which the spec says nothing but that it holds numbers. -/
inductive ResultFmt where
  | binary64
  | other (k : Nat)
deriving DecidableEq, Repr, Inhabited

/-- The frame codecs a block could be built with; the reference binary codec is the only one that the
spec defines (R7 `CODEC`, R112). -/
inductive Codec where
  | bin
deriving DecidableEq, Repr

/-- Frame bytes other than payload (R7, R112). -/
def Codec.frameOverhead : Codec → Nat
  | .bin => 4

/-- Whether replies are framed (R100, R112). -/
def Codec.replyIsFramed : Codec → Bool
  | .bin => false

namespace Config

/-- `CODEC`: `CODEC_BIN` only (R7). -/
def codec : Codec := .bin
/-- `START` (R7). -/
def start : Byte := 0xBB
/-- `MAX_PAYLOAD` (R7). -/
def maxPayload : Nat := 255
/-- `N_MAX` (R7). -/
def nMax : Nat := 9
/-- `CMD_MIN` and `CMD_MAX` (R7). -/
def cmdMin : Nat := 1
def cmdMax : Nat := 0x34
/-- `BAUD_DEFAULT` (R7). -/
def baudDefault : BitVec 32 := 115200
/-- `TIMEOUT_DEFAULT` in milliseconds (R7). -/
def timeoutDefault : BitVec 16 := 100
/-- `PRE_CLEAR` (R7). -/
def preClear : Bool := true
/-- `PROBE_ENABLE` (R7). -/
def probeEnable : Bool := true
/-- `PROBE_ATTEMPTS` (R7). -/
def probeAttempts : BitVec 4 := 10
/-- `PROBE_SPACING` in milliseconds (R7). -/
def probeSpacing : BitVec 16 := 100
/-- `PROBE_N` (R7). -/
def probeN : BitVec 4 := 1

/-- In which order the registry lists the ids `0x03` to `0x34`, by their number from `0x03`: OPEN (R220).
Log entries 6 and 15. -/
opaque idOrder : Equiv.Perm Place
/-- The id at a place of the registry: `0x03` to `0x34` (R106), another one at every place. -/
def idAt (k : Place) : Byte := BitVec.ofNat 8 ((idOrder k).val + 3)
/-- `PROBE_CMD`, the id of `GET_FRAME_ID`: OPEN (R7, R108); an assigned id (R106), neither `0x01` nor
`0x02` (R220). Log entry 6. -/
def probeCmd : Byte := idAt 0
/-- `REGISTRY` at the places that no operation of R222 needs filled: OPEN (R220). Log entry 15. -/
opaque registryRest : Place → RegEntry
/-- `REGISTRY` by places: `GET_FRAME_ID`, then one command for each shape and arity that R222 gives a
command of open id, then the OPEN rest (R220, R222). -/
def entryAt (k : Place) : RegEntry :=
  match k.val with
  | 0 => .read .one
  | 1 => .read .three
  | 2 => .read .six
  | 3 => .read .nine
  | 4 => .indexed
  | 5 => .vector
  | _ => registryRest k
/-- Which place a command of R222 has, if its entry there is one that the command admits: OPEN; one of
the 49 places of open ids. Log entry 15. -/
opaque wantedPlace : CmdName → Fin 49
/-- The same for the writes of vector parameters other than the offset vector (R222). Log entry 15. -/
opaque wantedVectorPlace : Nat → Fin 49
/-- The place of a command of R222: the wanted one where the registry's entry fits the command. -/
def placeOf (c : CmdName) : Place :=
  if c.admits (entryAt (wantedPlace c).succ) then (wantedPlace c).succ else c.sure
/-- The place of a write of a vector parameter other than the offset vector. -/
def vectorPlace (k : Nat) : Place :=
  if entryAt (wantedVectorPlace k).succ = .vector then (wantedVectorPlace k).succ else 5
/-- The ids of the commands of R222 that the source does not give, from the registry (R225, R226). -/
def cmdOf (c : CmdName) : Byte := idAt (placeOf c)
/-- `POS(slot)`: OPEN (R7). Log entry 15. -/
opaque pos : Slot → Byte
/-- The place of a magnetometer operation in the registry, whose entry there gives it shape and arity:
OPEN (R222). Log entry 15. -/
opaque magPlace : MagOp → Fin 49
/-- The transform of a magnetometer operation: OPEN (R222). Log entry 15. -/
opaque magTransform : MagOp → Transform
/-- The host's integers run from minus the first of these to the second (R229): not in the spec. Log
entry 16. -/
opaque hostIntRange : Nat × Nat
/-- `RESULT_FMT`: OPEN (R7, R227). Log entry 21. -/
opaque resultFmt : ResultFmt
/-- FREE VALUE: the code of `q / 10^places` in format number `k`: the format, then `q` and the number of
places. Log entry 21. -/
opaque otherDecimal : Nat → Int → Nat → Nat
/-- FREE VALUE: the code of the value of a NaN or infinite pattern in format number `k`. Log entry 21. -/
opaque otherPattern : Nat → F32 → Nat
/-- FREE VALUE: the sign of a delivered binary64 zero. Log entry 21. -/
opaque zeroNegative : Bool
/-- FREE VALUE: the sign and fraction of a delivered NaN, of which only its being a NaN is stated. Log
entry 21. -/
opaque nanBits : F32 → Bool × BitVec 52
/-- FREE VALUE: what `D_N` holds for a record-form `n` over 15 that the operation ignores (R21, R103). Log
entry 27. -/
opaque overlargeN : Nat → BitVec 4
/-- FREE VALUE: what `D_PLEN` holds for a record-form payload over 255 bytes that the operation ignores, by
its length (R21, R103). Log entry 27. -/
opaque overlongPlen : Nat → Byte
/-- FREE VALUE: the environment's answers beyond those a state lists (R6, R72). Log entry 1. -/
opaque answer : Nat → Answer
/-- FREE VALUE: the transport after power-on reset (R291). Log entry 3. -/
opaque transportAtReset : Answer
/-- FREE VALUE: the arity a probe uses when `CFG_PROBE_N` holds an illegal 10 to 15 (R37). Log entry 7. -/
opaque illegalProbeArity : BitVec 4 → Fin 10
/-- FREE VALUE: what the host reads from `FB[i]` for `i >= flen` (R23): the number of free values drawn
so far, then the index. Log entry 9. -/
opaque freeFrameByte : Nat → Nat → Byte

end Config

/-- The command registry: the two entries the source gives, and those of the ids `0x03` to `0x34`, on the
assigned ids only (R220, R221). -/
def registry (cmd : Byte) : Option RegEntry :=
  if cmd.toNat < Config.cmdMin ∨ Config.cmdMax < cmd.toNat then none
  else if cmd = 0x01 then some (.read .four)
  else if cmd = 0x02 then some (.read .three)
  else some (Config.entryAt (Config.idOrder.symm (Fin.ofNat 50 (cmd.toNat - 3))))

end Sys2Proof
end

