-- ==== Sys2Proof/Machine/Operands.lean ====
section
/-! DEFINITION. Operand forms and the pure units of the block: byte order (R10, R63), the checksum-8
unit (R120, R121), the frame as a pure function (R124), payload packers (R127), the float
deserializer (R141). -/

namespace Sys2Proof

/-- `LE32(b0, b1, b2, b3)`: the byte first on the wire is bits 7:0 (R10). -/
def le32 (b0 b1 b2 b3 : Byte) : F32 := b3 ++ b2 ++ b1 ++ b0

/-- `BYTES_LE(w)`: least significant byte first (R10). -/
def bytesLE (w : F32) : List Byte :=
  [w.extractLsb' 0 8, w.extractLsb' 8 8, w.extractLsb' 16 8, w.extractLsb' 24 8]

/-- `CS_ADD(b)` on the accumulator `csum`: unsigned, modulo 256, the carry lost (R120, R121). -/
def csAdd (csum b : Byte) : Byte := csum + b

/-- `SUM8(s)`: `CS_CLEAR`, then `CS_ADD` of every byte in order (R10, R120). -/
def sum8 (s : List Byte) : Byte := s.foldl csAdd 0

/-- The bytes of a frame that its checksum covers: start, command, length, payload (R92). -/
def frameBody (cmd : Byte) (p : List Byte) : List Byte :=
  Config.start :: cmd :: BitVec.ofNat 8 p.length :: p

/-- The checksum of the frame of `cmd` and `p` (R92). -/
def frameSum (cmd : Byte) (p : List Byte) : Byte := sum8 (frameBody cmd p)

/-- `FRAME(cmd, p)` (R124). -/
def frameOf (cmd : Byte) (p : List Byte) : List Byte := frameBody cmd p ++ [frameSum cmd p]

/-- The bytes of a frame whose checksum byte is `chk`, right or wrong, as they lie on the wire (R90). -/
def wireFrame (cmd : Byte) (p : List Byte) (chk : Byte) : List Byte := frameBody cmd p ++ [chk]

/-- `PACK_B(pos, val)`, 5 bytes (R127). -/
def packB (pos : Byte) (val : F32) : List Byte := pos :: bytesLE val

/-- `PACK_C(a, b, c)`, 12 bytes, `a` first (R127). -/
def packC (a b c : F32) : List Byte := bytesLE a ++ bytesLE b ++ bytesLE c

/-- `UNPACK(s)`: value `i` is `LE32` of bytes `4i` to `4i+3` (R141). -/
def unpack : List Byte → List F32
  | b0 :: b1 :: b2 :: b3 :: rest => le32 b0 b1 b2 b3 :: unpack rest
  | _ => []

/-- `encode_floats(v)`: the concatenation of the values' `BYTES_LE` (R145). -/
def encodeFloats (v : List F32) : List Byte := v.flatMap bytesLE

end Sys2Proof
end

