-- ==== Sys2Proof/Syntax.lean ====
section
/-! DEFINITION. The instructions: one constructor per row of spec/opcode_table.json. Host operations
carry every field of their descriptor and the payload bytes presented with it, the ignored ones too,
because acceptance latches the whole descriptor (R21, R102, R103); wire rows carry the fields of the
request frame (R90, R96 to R98). -/

namespace Sys2Proof

/-- The payload of a descriptor whose operation ignores it: the count field and the payload bytes that
were presented (R21, R102, R103). -/
structure Ignored where
  plen : Byte
  bytes : List Byte
deriving DecidableEq, Repr

/-- One constructor per row of the opcode table. The reply arity `n` of `recv`, `xfer` and `xferA` is
a natural number, as in the record form of R102; payloads are lists of any length, so that the
programming errors of R111 can be written. -/
inductive Instr where
  /-- `ENCODE cmd, payload` (op 0x1, R125); `n` is ignored (R103). -/
  | encode (n : BitVec 4) (cmd : Byte) (payload : List Byte)
  /-- `ENCODE_NP cmd` (op 0x2, R126); `n` and the payload are ignored. -/
  | encodeNp (n : BitVec 4) (cmd : Byte) (ign : Ignored)
  /-- `SEND cmd, payload` (op 0x3, R160); `n` is ignored. -/
  | send (n : BitVec 4) (cmd : Byte) (payload : List Byte)
  /-- `RECV n` (op 0x4, R161); `cmd` and the payload are ignored. -/
  | recv (n : Nat) (cmd : Byte) (ign : Ignored)
  /-- `XFER cmd, payload, n` (op 0x5, R162). -/
  | xfer (n : Nat) (cmd : Byte) (payload : List Byte)
  /-- `CONNECT` (op 0x6, R200); every descriptor field other than `op` is ignored. -/
  | connect (n : BitVec 4) (cmd : Byte) (ign : Ignored)
  /-- `DISCONNECT` (op 0x7, R208); every descriptor field other than `op` is ignored. -/
  | disconnect (n : BitVec 4) (cmd : Byte) (ign : Ignored)
  /-- `XFER.A cmd, n`: `XFER cmd, [], n` (R114). -/
  | xferA (n : Nat) (cmd : Byte)
  /-- `XFER.B cmd, pos, val`: `XFER cmd, [pos] ++ BYTES_LE(val), 1` (R114). -/
  | xferB (cmd pos : Byte) (val : F32)
  /-- `XFER.C cmd, a, b, c`: `XFER` of the three floats with no reply (R114). -/
  | xferC (cmd : Byte) (a b c : F32)
  /-- `FRAME_A`: a request frame without payload on the wire (R96); `chk` is its checksum byte as sent. -/
  | frameA (cmd chk : Byte)
  /-- `FRAME_B`: a request frame with position byte and one float on the wire (R97). -/
  | frameB (cmd pos : Byte) (val : F32) (chk : Byte)
  /-- `FRAME_C`: a request frame with three floats on the wire (R98). -/
  | frameC (cmd : Byte) (a b c : F32) (chk : Byte)
  /-- `FRAME`: a general request frame on the wire (R90). -/
  | frame (cmd : Byte) (payload : List Byte) (chk : Byte)
  /-- `READ_QUAT`: the request frame `BB 01 00 BC` on the wire (R107). -/
  | readQuatFrame
  /-- `READ_RPY`: the request frame `BB 02 00 BD` on the wire (R107). -/
  | readRpyFrame
  /-- `GET_FRAME_ID`: the probe's request frame on the wire, command id `PROBE_CMD` (R108). -/
  | getFrameId (chk : Byte)
  /-- `readQuat`: `XFER.A 0x01, 4`, the host then applying `round6` (R223). -/
  | readQuat
  /-- `readRPY`: `XFER.A 0x02, 3`, the host then applying `round6` (R224). -/
  | readRPY
  /-- A reserved operation code (R110); `rest` is the remainder of the header, ignored. -/
  | reservedOp (op : BitVec 4) (rest : BitVec 20)
deriving DecidableEq, Repr

end Sys2Proof
end

