-- ==== Sys2Proof/WellFormed.lean ====
section
/-! DEFINITION. Well-formedness of instructions: exactly what the packed descriptor and the frame can
hold. A reply arity of 10 to 15 can be written and is well formed as an encoding; executing it is a
programming error (R111). -/

namespace Sys2Proof

/-- `len(payload) <= 255`: it fits the one length byte (R91, R123). -/
def payloadFits (payload : List Byte) : Bool := decide (payload.length ≤ 255)

/-- An ignored payload has no more bytes than its `plen` says; a packed descriptor may come with fewer
(log entry 10). -/
def Ignored.fits (g : Ignored) : Bool := decide (g.bytes.length ≤ g.plen.toNat)

/-- The reply arity fits the four bits 19:16 of the header (R102). -/
def arityFits (n : Nat) : Bool := decide (n < 16)

/-- Operation codes 0x0 and 0x8 to 0xF are the reserved ones (R104, R110). -/
def isReservedOp (op : BitVec 4) : Bool := decide (op.toNat = 0 ∨ 8 ≤ op.toNat)

/-- An instruction that some descriptor or frame spells. -/
def Instr.wf : Instr → Bool
  | .encode _ _ p => payloadFits p
  | .encodeNp _ _ g => g.fits
  | .send _ _ p => payloadFits p
  | .recv n _ g => arityFits n && g.fits
  | .xfer n _ p => arityFits n && payloadFits p
  | .connect _ _ g => g.fits
  | .disconnect _ _ g => g.fits
  | .xferA n _ => arityFits n
  | .xferB _ _ _ => true
  | .xferC _ _ _ _ => true
  | .frameA _ _ => true
  | .frameB _ _ _ _ => true
  | .frameC _ _ _ _ _ => true
  | .frame _ p _ => payloadFits p
  | .readQuatFrame => true
  | .readRpyFrame => true
  | .getFrameId _ => true
  | .readQuat => true
  | .readRPY => true
  | .reservedOp op _ => isReservedOp op

/-- The instructions a host presents as operation descriptors; the others are request frames on the
wire (R105: the two levels are independent). -/
def Instr.isDescriptor : Instr → Bool
  | .encode _ _ _ => true
  | .encodeNp _ _ _ => true
  | .send _ _ _ => true
  | .recv _ _ _ => true
  | .xfer _ _ _ => true
  | .connect _ _ _ => true
  | .disconnect _ _ _ => true
  | .xferA _ _ => true
  | .xferB _ _ _ => true
  | .xferC _ _ _ _ => true
  | .frameA _ _ => false
  | .frameB _ _ _ _ => false
  | .frameC _ _ _ _ _ => false
  | .frame _ _ _ => false
  | .readQuatFrame => false
  | .readRpyFrame => false
  | .getFrameId _ => false
  | .readQuat => true
  | .readRPY => true
  | .reservedOp _ _ => true

end Sys2Proof
end

