-- ==== Sys2Proof/Decode.lean ====
section
/-! DEFINITION. Decoding of operation descriptors and of request frames, total and rejecting by name,
and after it the encoder. Where rows of the opcode table spell the same word, decoding answers the
most specific row (log entry 11). -/

namespace Sys2Proof

/-- Why bytes are no instruction. -/
inductive DecodeError where
  /-- Fewer payload bytes follow the header than its `plen` says (R102); raised for descriptors. -/
  | truncatedPayload
  /-- The first byte on the wire is not the start marker `0xBB` (R90, R105). -/
  | noStartMarker
  /-- The wire holds less than the `4 + len` bytes of the frame (R94). -/
  | truncatedFrame
deriving DecidableEq, Repr

/-- An instruction's encoding: a packed descriptor at the host port (R102), or bytes on the wire (R90). -/
inductive Code where
  | desc (hdr : Header) (pay : List Byte)
  | wire (bytes : List Byte)
deriving DecidableEq, Repr

/-- The most specific row that spells `XFER cmd, payload, n` (R114, R223, R224). -/
def Instr.ofXfer (n : Nat) (cmd : Byte) (payload : List Byte) : Instr :=
  match payload with
  | [] =>
    if n = 4 ∧ cmd = 0x01 then .readQuat
    else if n = 3 ∧ cmd = 0x02 then .readRPY
    else .xferA n cmd
  | [p, v0, v1, v2, v3] =>
    if n = 1 then .xferB cmd p (le32 v0 v1 v2 v3) else .xfer n cmd [p, v0, v1, v2, v3]
  | [a0, a1, a2, a3, b0, b1, b2, b3, c0, c1, c2, c3] =>
    if n = 0 then .xferC cmd (le32 a0 a1 a2 a3) (le32 b0 b1 b2 b3) (le32 c0 c1 c2 c3)
    else .xfer n cmd [a0, a1, a2, a3, b0, b1, b2, b3, c0, c1, c2, c3]
  | p => .xfer n cmd p

/-- The most specific row that spells a frame (R96 to R98, R107). `GET_FRAME_ID` has no id of its own
in the spec, so its frames read as `FRAME_A` (log entry 11). -/
def Instr.ofFrame (cmd : Byte) (payload : List Byte) (chk : Byte) : Instr :=
  match payload with
  | [] =>
    if cmd = 0x01 ∧ chk = 0xBC then .readQuatFrame
    else if cmd = 0x02 ∧ chk = 0xBD then .readRpyFrame
    else .frameA cmd chk
  | [p, v0, v1, v2, v3] => .frameB cmd p (le32 v0 v1 v2 v3) chk
  | [a0, a1, a2, a3, b0, b1, b2, b3, c0, c1, c2, c3] =>
    .frameC cmd (le32 a0 a1 a2 a3) (le32 b0 b1 b2 b3) (le32 c0 c1 c2 c3) chk
  | p => .frame cmd p chk

/-- The fields of the packed header (R102): bits 23:20, 19:16, 15:8, 7:0. -/
def headerOp (h : Header) : BitVec 4 := h.extractLsb' 20 4
def headerN (h : Header) : BitVec 4 := h.extractLsb' 16 4
def headerCmd (h : Header) : Byte := h.extractLsb' 8 8
def headerPlen (h : Header) : Byte := h.extractLsb' 0 8
/-- Everything below the operation code. -/
def headerRest (h : Header) : BitVec 20 := h.extractLsb' 0 20

/-- The packed header (R102). -/
def header (op n : BitVec 4) (cmd plen : Byte) : Header := op ++ n ++ cmd ++ plen

/-- Decoding a packed descriptor looks at `op` (R104, R105) and, within `XFER`, at the
pseudo-forms. Where the operation ignores its payload, missing payload bytes do not matter (R103; log
entry 10). The second component is what the instruction did not take of the payload lines. -/
def decodeDescriptor (h : Header) (pay : List Byte) : Except DecodeError (Instr × List Byte) :=
  let n := headerN h
  let cmd := headerCmd h
  let plen := headerPlen h
  let used := pay.take plen.toNat
  let left := pay.drop plen.toNat
  let ign : Ignored := { plen := plen, bytes := used }
  let short := decide (pay.length < plen.toNat)
  match (headerOp h).toNat with
  | 1 => if short then .error .truncatedPayload else .ok (.encode n cmd used, left)
  | 2 => .ok (.encodeNp n cmd ign, left)
  | 3 => if short then .error .truncatedPayload else .ok (.send n cmd used, left)
  | 4 => .ok (.recv n.toNat cmd ign, left)
  | 5 => if short then .error .truncatedPayload else .ok (.ofXfer n.toNat cmd used, left)
  | 6 => .ok (.connect n cmd ign, left)
  | 7 => .ok (.disconnect n cmd ign, left)
  | _ => .ok (.reservedOp (headerOp h) (headerRest h), pay)

/-- Decoding a frame on the wire, as a device does: byte 0 is the start marker, byte 2 gives the
length, byte 1 the command (R94, R105). The checksum byte is not judged (R72). The second component
is what follows the frame. -/
def decodeFrame (bytes : List Byte) : Except DecodeError (Instr × List Byte) :=
  match bytes with
  | [] => .error .truncatedFrame
  | b0 :: tail =>
    if b0 ≠ Config.start then .error .noStartMarker
    else
      match tail with
      | cmd :: len :: rest =>
        match rest.drop len.toNat with
        | [] => .error .truncatedFrame
        | chk :: left => .ok (.ofFrame cmd (rest.take len.toNat) chk, left)
      | _ => .error .truncatedFrame

/-- The decoder. -/
def decode : Code → Except DecodeError (Instr × List Byte)
  | .desc h pay => decodeDescriptor h pay
  | .wire bytes => decodeFrame bytes

/-- The encoder, row by row of the encoding tables (R102, R114, R90, R96 to R98, R107, R108). -/
def encode : Instr → Code
  | .encode n cmd p => .desc (header 1 n cmd (BitVec.ofNat 8 p.length)) p
  | .encodeNp n cmd g => .desc (header 2 n cmd g.plen) g.bytes
  | .send n cmd p => .desc (header 3 n cmd (BitVec.ofNat 8 p.length)) p
  | .recv n cmd g => .desc (header 4 (BitVec.ofNat 4 n) cmd g.plen) g.bytes
  | .xfer n cmd p => .desc (header 5 (BitVec.ofNat 4 n) cmd (BitVec.ofNat 8 p.length)) p
  | .connect n cmd g => .desc (header 6 n cmd g.plen) g.bytes
  | .disconnect n cmd g => .desc (header 7 n cmd g.plen) g.bytes
  | .xferA n cmd => .desc (header 5 (BitVec.ofNat 4 n) cmd 0) []
  | .xferB cmd pos val => .desc (header 5 1 cmd 5) (packB pos val)
  | .xferC cmd a b c => .desc (header 5 0 cmd 12) (packC a b c)
  | .frameA cmd chk => .wire [0xBB, cmd, 0x00, chk]
  | .frameB cmd pos val chk => .wire ([0xBB, cmd, 0x05, pos] ++ bytesLE val ++ [chk])
  | .frameC cmd a b c chk =>
    .wire ([0xBB, cmd, 0x0C] ++ bytesLE a ++ bytesLE b ++ bytesLE c ++ [chk])
  | .frame cmd p chk => .wire (0xBB :: cmd :: BitVec.ofNat 8 p.length :: p ++ [chk])
  | .readQuatFrame => .wire [0xBB, 0x01, 0x00, 0xBC]
  | .readRpyFrame => .wire [0xBB, 0x02, 0x00, 0xBD]
  | .getFrameId chk => .wire [0xBB, Config.probeCmd, 0x00, chk]
  | .readQuat => .desc 0x540100 []
  | .readRPY => .desc 0x530200 []
  | .reservedOp op rest => .desc (op ++ rest) []

/-- The row that decoding answers for an instruction's own word: the most specific spelling. -/
def Instr.canon : Instr → Instr
  | .encode n cmd p => .encode n cmd p
  | .encodeNp n cmd g => .encodeNp n cmd g
  | .send n cmd p => .send n cmd p
  | .recv n cmd g => .recv n cmd g
  | .xfer n cmd p => .ofXfer n cmd p
  | .connect n cmd g => .connect n cmd g
  | .disconnect n cmd g => .disconnect n cmd g
  | .xferA n cmd => .ofXfer n cmd []
  | .xferB cmd pos val => .xferB cmd pos val
  | .xferC cmd a b c => .xferC cmd a b c
  | .frameA cmd chk => .ofFrame cmd [] chk
  | .frameB cmd pos val chk => .frameB cmd pos val chk
  | .frameC cmd a b c chk => .frameC cmd a b c chk
  | .frame cmd p chk => .ofFrame cmd p chk
  | .readQuatFrame => .readQuatFrame
  | .readRpyFrame => .readRpyFrame
  | .getFrameId chk => .ofFrame Config.probeCmd [] chk
  | .readQuat => .readQuat
  | .readRPY => .readRPY
  | .reservedOp op rest => .reservedOp op rest

/-- `k` payload bytes that follow the header of a descriptor's table word: bits 24 and up, a byte at a
time. -/
def tablePayload : Nat → Nat → List Byte
  | 0, _ => []
  | k + 1, w => BitVec.ofNat 8 (w >>> 24) :: tablePayload k (w >>> 8)

/-- The `k` bytes of a `WIRE` row's word, the byte first on the wire leftmost (R96). -/
def tableWire : Nat → Nat → List Byte
  | 0, _ => []
  | k + 1, w => BitVec.ofNat 8 (w >>> (8 * k)) :: tableWire k w

/-- A frame laid out from the bytes a table word gives, the missing ones zero: `4 + len` bytes. -/
def padFrame (bytes : List Byte) : List Byte :=
  (bytes ++ List.replicate 259 0).take (4 + ((bytes.drop 2).headD 0).toNat)

/-- The encoding that a word of spec/opcode_table.json stands for. Rows of 8, 32, 72 and 128 bits are
`WIRE` rows; the others are descriptors, the header being the first word (log entry 12). -/
def tableCode (nbits w : Nat) : Code :=
  match nbits with
  | 8 => .wire (padFrame (tableWire 1 w))
  | 32 => .wire (padFrame (tableWire 4 w))
  | 72 => .wire (padFrame (tableWire 9 w))
  | 128 => .wire (padFrame (tableWire 16 w))
  | _ => .desc (BitVec.ofNat 24 w) (tablePayload (w % 256) w)

/-- The instruction the decoder reads from a word of the opcode table. -/
def decodeTableWord (nbits w : Nat) : Option Instr :=
  match decode (tableCode nbits w) with
  | .ok (i, _) => some i
  | .error _ => none

end Sys2Proof
end

