-- ==== Sys2Proof/Machine/State.lean ====
section
/-! DEFINITION. The machine's state as plain data: the block's state of R20, the environment's of R62,
and the model's own bookkeeping (the outside world's pending inputs, the environment's answers, the
host's typed call). -/

namespace Sys2Proof.Machine

/-- The `err` codes of R26; 6 and 7 are never produced, so they have no constructor. -/
inductive Err where
  | noError | timeout | transportUnavailable | transportFault | connectFailed | programmingError
deriving DecidableEq, Repr

/-- The sequencer states of R28; 11 to 14 are never entered, so they have no constructor. -/
inductive Seq where
  | idle | encode | preclear | tx | txDrain | rxWait | decode | resync | opening | probeSleep
  | closing | fatal
deriving DecidableEq, Repr

/-- What `MemWrite`, `TxDrain`, `RxDiscard`, `Open` and `Close` return (R9). -/
inductive PrimResult where
  | done | fault
deriving DecidableEq, Repr

/-- What `MemRead` returns (R68). -/
inductive ReadResult where
  | bytes (s : List Byte)
  | fault
deriving DecidableEq, Repr

/-- The descriptor latch `D_OP`, `D_N`, `D_CMD`, `D_PLEN` and the specified part of `PAY` (R21): the
payload bytes the accepted descriptor carried. What `PAY` holds beyond them is unspecified and read by
no rule, so it is not represented (DESIGN CHOICE, safe: log entries 8 and 10). -/
structure Latch where
  op : BitVec 4
  n : BitVec 4
  cmd : Byte
  plen : Byte
  pay : List Byte
deriving DecidableEq, Repr

/-- The control registers (R33 to R37). -/
structure Cfg where
  /-- `CFG_PORT`: an opaque identifier, here a number that stands for it. -/
  port : Nat
  baud : BitVec 32
  timeout : BitVec 16
  preclear : Bool
  probeEn : Bool
  probeAttempts : BitVec 4
  probeSpacing : BitVec 16
  probeCmd : Byte
  probeN : BitVec 4
deriving DecidableEq, Repr

/-- A write of one control register by the host (R33 to R37, R47). -/
inductive CfgWrite where
  | port (v : Nat)
  | baud (v : BitVec 32)
  | timeout (v : BitVec 16)
  | preclear (v : Bool)
  | probeEn (v : Bool)
  | probeAttempts (v : BitVec 4)
  | probeSpacing (v : BitVec 16)
  | probeCmd (v : Byte)
  | probeN (v : BitVec 4)
deriving DecidableEq, Repr

/-- The arguments of an `Open` (R70, R202). -/
structure OpenCall where
  port : Nat
  baud : BitVec 32
  timeout : BitVec 16
deriving DecidableEq, Repr

/-- The environment's state that R62 names: the transport, the wire behind it, and the device, of
which only the request frames it has taken, oldest first, are known. -/
structure Transport where
  isOpen : Bool
  txq : List Byte
  rxq : List Byte
  wire : List Byte
  taken : List (List Byte)
  /-- The port, baud rate and timeout that the last `Open` was called with, if there was one: while the
  transport is open, those it was opened with (R33 to R35, R38, R70; log entry 28). -/
  openCall : Option OpenCall
deriving DecidableEq, Repr

/-- The environment's answers still to come: those listed, then the free values of `Config.answer`
from number `draws` on (R6: oracle input). -/
structure Oracle where
  tape : List Answer
  draws : Nat
deriving DecidableEq, Repr

/-- The record form of a descriptor (R102): `plen` is the number of payload bytes. -/
structure Descriptor where
  op : BitVec 4
  n : Nat
  cmd : Byte
  payload : List Byte
deriving DecidableEq, Repr

/-- The typed operations of R222, with the operands their request shapes take. -/
inductive TypedOp where
  | readQuat | readRPY | readAccel | readGyro | readMag | readAccelGyro | readImuData
  | getFilterGain (val : F32)
  | getCutoff (val : F32)
  | setFilterGain (val : F32)
  | setI2CAddress (val : F32)
  | setWorldFrameId (val : F32)
  | getWorldFrameId
  | getI2CAddress (val : F32)
  | resetParams (val : F32)
  | clearBuffer (val : F32)
  | writeOffset (a b c : F32)
  /-- A write of another vector parameter, by a number that stands for it. -/
  | writeVector (k : Nat) (a b c : F32)
  /-- The magnetometer group; of the floats the request takes as many as its shape has. -/
  | magnetometer (o : MagOp) (a b c : F32)
deriving DecidableEq, Repr

/-- A typed operation in progress, as its caller remembers it: the arity and the transform of its
row (R222). -/
structure Pending where
  arity : Nat
  transform : Transform
deriving DecidableEq, Repr

/-- A value a typed operation returns. -/
inductive HostValue where
  /-- The exact number `q / 10^places` (R227, R228), before delivery. -/
  | decimal (q : Int) (places : Nat)
  /-- A number delivered in binary64 (R7, R227). -/
  | binary64 (bits : BitVec 64)
  /-- A number delivered in format number `k`, by its code there (R7, R227). -/
  | coded (k code : Nat)
  /-- An integer (R229). -/
  | int (z : Int)
  /-- A boolean acknowledgement (R230). -/
  | bool (b : Bool)
  /-- The value of a pattern, unchanged (R222, R227). -/
  | pattern (w : F32)
  /-- The transform has no value there (R229). -/
  | noValue
deriving DecidableEq, Repr

/-- What a typed operation returns: the success indicator and the values (R222). -/
structure TypedResult where
  ok : Bool
  values : List HostValue
deriving DecidableEq, Repr

/-- One thing the outside world does to the block: its host, its reset input, its transport, its
device. The state lists those still to come, first first. -/
inductive Input where
  /-- The host presents a packed descriptor and asserts `start` (R44, R102). -/
  | packed (hdr : Header) (pay : List Byte)
  /-- The host presents a descriptor in record form (R102). -/
  | record (d : Descriptor)
  /-- The host's caller makes a typed call (R222). -/
  | call (t : TypedOp)
  /-- The host writes a control register (R47). -/
  | cfg (w : CfgWrite)
  /-- The `reset` input is asserted (R290). -/
  | reset
  /-- The device appends bytes to `rxq` of its own accord (R72). -/
  | arrive (bytes : List Byte)
  /-- The transport sends that many bytes of `txq` (R62). -/
  | transmit (k : Nat)
  /-- The environment closes the transport by itself (R84); what it then still sends of `txq` is a
  `transmit` before it (log entry 30). -/
  | unplug
  /-- The device takes the request frame at the front of the wire (R6, R94). -/
  | deviceTurn
  /-- From now on the outside world is looked at after that many sequencer transitions of an
  operation, or only when it is over (log entry 2). -/
  | watch (burst : Option Nat)
deriving DecidableEq, Repr

/-- The state. First the block's (R20), then the environment's (R62), then the model's own fields. -/
structure State where
  /-- The descriptor latch and `PAY` (R21). -/
  d : Latch
  /-- `F[0..8]` (R22). -/
  f : Vector F32 9
  /-- `FB[0..flen-1]`, the specified part of `FB` (R23; log entry 8). -/
  fb : List Byte
  flen : BitVec 9
  /-- `RXB[0..rx_cnt-1]`, the specified part of `RXB` (R24; log entry 8). -/
  rxb : List Byte
  rxCnt : BitVec 6
  /-- The checksum accumulator (R25). -/
  csum : Byte
  /-- Outcome of the last completed operation (R26). -/
  ok : Bool
  err : Err
  /-- Operation in progress; completion pulse (R27). -/
  busy : Bool
  done : Bool
  /-- The sequencer state (R28). -/
  seq : Seq
  /-- Index of the next frame byte to write (R29). -/
  txIdx : BitVec 9
  /-- Probe attempts made in the current `CONNECT` (R30). -/
  attempt : BitVec 4
  /-- The Session (R31). -/
  sess : Bool
  /-- Programming error detected (R32). -/
  fatal : Bool
  /-- The control registers (R33 to R37). -/
  cfg : Cfg
  /-- The timeout in force (R38). -/
  lTimeout : BitVec 16
  /-- The environment: transport, wire, device (R62). -/
  tr : Transport
  /-- MODEL'S OWN: the environment's answers to come (log entry 1). -/
  oracle : Oracle
  /-- MODEL'S OWN: the outside world's inputs to come (log entry 2). -/
  inputs : List Input
  /-- MODEL'S OWN: transitions until the outside world is next looked at (log entry 2). -/
  burst : Option Nat
  /-- MODEL'S OWN: the typed operation in progress, at the host (R222; log entry 20). -/
  call : Option Pending
  /-- MODEL'S OWN: what the last typed operation returned, at the host (R222; log entry 20). -/
  ret : Option TypedResult
deriving DecidableEq, Repr

/-- No instruction and no input stops this machine with a fault: every error of the spec is a
completion with `err` (R262) or the entry to `S_FATAL` (R258), a next state. The type has no
constructor, so nobody raises one; safe. -/
inductive Fault where
deriving DecidableEq, Repr

/-- Why a step has no meaning. -/
inductive Refusal where
  /-- An instruction whose arm in `exec` has no meaning yet; raised by `exec` only; safe. -/
  | notModelled (mnemonic : String)
  /-- The host presented a packed descriptor with fewer payload bytes than its `plen` says, which the
  descriptor form rules out (R102); raised by `step` when it fetches; DESIGN CHOICE, safe (log entry
  26). -/
  | undecodable (e : DecodeError)
deriving DecidableEq, Repr

/-- All nine results zero (R146). -/
def zeroFile : Vector F32 9 := #v[0, 0, 0, 0, 0, 0, 0, 0, 0]

/-- The control registers after reset (R48); `CFG_PORT` is unspecified there (log entry 5) and
`CFG_PROBE_CMD` an open parameter (log entry 6). -/
def Cfg.reset : Cfg where
  port := 0
  baud := Config.baudDefault
  timeout := Config.timeoutDefault
  preclear := Config.preClear
  probeEn := Config.probeEnable
  probeAttempts := Config.probeAttempts
  probeSpacing := Config.probeSpacing
  probeCmd := Config.probeCmd
  probeN := Config.probeN

/-- The transport after a power-on reset: anything (R291); the device has taken no frame yet. -/
def Transport.reset : Transport where
  isOpen := Config.transportAtReset.isOpen
  txq := Config.transportAtReset.leftover
  rxq := Config.transportAtReset.arrive
  wire := Config.transportAtReset.wire
  taken := []
  openCall := none

/-- The machine right after reset (R48, R292), with no input pending. -/
def State.reset : State where
  d := { op := 0, n := 0, cmd := 0, plen := 0, pay := [] }
  f := zeroFile
  fb := []
  flen := 0
  rxb := []
  rxCnt := 0
  csum := 0
  ok := false
  err := .noError
  busy := false
  done := false
  seq := .idle
  txIdx := 0
  attempt := 0
  sess := false
  fatal := false
  cfg := Cfg.reset
  lTimeout := Config.timeoutDefault
  tr := Transport.reset
  oracle := { tape := [], draws := 0 }
  inputs := []
  burst := none
  call := none
  ret := none

end Sys2Proof.Machine
end

