-- ==== Sys2Proof/Machine/Flags.lean ====
section
/-! DEFINITION. The result flags and the handshake: codes, the `STATUS` view, acceptance and the
three ways an operation ends (R26, R27, R39, R44 to R46, R178, R258, R262). -/

namespace Sys2Proof.Machine

/-- The code of an error kind (R26). -/
def Err.code : Err → BitVec 3
  | .noError => 0
  | .timeout => 1
  | .transportUnavailable => 2
  | .transportFault => 3
  | .connectFailed => 4
  | .programmingError => 5

/-- The code of a sequencer state (R28). -/
def Seq.code : Seq → BitVec 4
  | .idle => 0
  | .encode => 1
  | .preclear => 2
  | .tx => 3
  | .txDrain => 4
  | .rxWait => 5
  | .decode => 6
  | .resync => 7
  | .opening => 8
  | .probeSleep => 9
  | .closing => 10
  | .fatal => 15

/-- `STATUS = {fatal, sess, busy, ok, err[2:0], seq[3:0]}`, `fatal` most significant (R39). -/
def State.status (s : State) : BitVec 11 :=
  BitVec.ofBool s.fatal ++ BitVec.ofBool s.sess ++ BitVec.ofBool s.busy ++ BitVec.ofBool s.ok ++
    s.err.code ++ s.seq.code

/-- A descriptor can be accepted (R44). -/
def State.ready (s : State) : Bool := !s.busy && !s.fatal

/-- The sequencer takes the named state (R9). -/
def State.goto (s : State) (q : Seq) : State := { s with seq := q }

/-- The latch of an operation that ignores its payload: the bytes presented are latched all the same,
`PAY[0..D_PLEN-1]` (R21). -/
def latchIgnored (op n : BitVec 4) (cmd : Byte) (g : Ignored) : Latch where
  op := op
  n := n
  cmd := cmd
  plen := g.plen
  pay := g.bytes.take g.plen.toNat

/-- Acceptance: latch the descriptor, raise `busy`, lower `done`, clear `tx_idx` (R21, R44, R45); the
caller's typed operation, if any, is remembered at the host. -/
def State.accept (s : State) (l : Latch) (call : Option Pending) : State :=
  { s with d := l, busy := true, done := false, txIdx := 0, call := call }

/-- Clearing at the acceptance of `RECV`, `XFER` and `CONNECT` (R45). -/
def State.clearResults (s : State) : State :=
  { s with f := zeroFile, rxb := [], rxCnt := 0 }

/-- Success completion (R178). -/
def State.succeed (s : State) : State :=
  { s with ok := true, err := .noError, seq := .idle, busy := false, done := true }

/-- Failure completion, the meaning of `raise k` (R262). -/
def State.failWith (s : State) (k : Err) : State :=
  { s with f := zeroFile, ok := false, err := k, seq := .idle, busy := false, done := true }

/-- Programming error: entry to `S_FATAL`; `done` is not raised, the transport is left as it is (R258). -/
def State.enterFatal (s : State) : State :=
  { s with fatal := true, ok := false, err := .programmingError, seq := .fatal, busy := true,
           done := false }

end Sys2Proof.Machine
end

