-- ==== Sys2Proof/Machine/Floats.lean ====
section
/-! DEFINITION. The host's numeric reading of result registers: the value of a binary32 pattern
(R147) and the post-decode transforms (R227 to R231). The block itself uses none of this (R144). -/

namespace Sys2Proof.Machine

/-- The magnitude of a finite pattern as `mant * 2^up / 2^down`, with its sign (R147). -/
structure FiniteF32 where
  neg : Bool
  mant : Nat
  up : Nat
  down : Nat
deriving DecidableEq, Repr

/-- The biased exponent `w[30:23]` and the fraction `w[22:0]` (R147). -/
def f32Exp (w : F32) : Nat := (w.extractLsb' 23 8).toNat
def f32Frac (w : F32) : Nat := (w.extractLsb' 0 23).toNat

/-- The exact value of a pattern; none for a NaN or an infinity (R147). -/
def f32Value (w : F32) : Option FiniteF32 :=
  if f32Exp w = 255 then none
  else if f32Exp w = 0 then some { neg := w.msb, mant := f32Frac w, up := 0, down := 149 }
  else some { neg := w.msb, mant := 2 ^ 23 + f32Frac w, up := f32Exp w - 150, down := 150 - f32Exp w }

/-- The natural number nearest to `num / den`, a tie going to the even one (R227). -/
def roundHalfEven (num den : Nat) : Nat :=
  let q := num / den
  let r := num % den
  if 2 * r < den then q
  else if den < 2 * r then q + 1
  else if q % 2 = 0 then q else q + 1

/-- The integer with that sign and magnitude. -/
def signed (neg : Bool) (m : Nat) : Int := if neg then -(m : Int) else m

/-- The integer nearest to the value times `scale`, half to even (R227, R228, R230). -/
def FiniteF32.nearest (x : FiniteF32) (scale : Nat) : Int :=
  signed x.neg (roundHalfEven (x.mant * scale * 2 ^ x.up) (2 ^ x.down))

/-- The value with its fraction dropped, toward zero (R229). -/
def FiniteF32.truncated (x : FiniteF32) : Int :=
  signed x.neg (x.mant * 2 ^ x.up / 2 ^ x.down)

/-- Rounding to `places` decimal places; a NaN or an infinity is returned unchanged (R227, R228). -/
def roundPlaces (places : Nat) (w : F32) : HostValue :=
  match f32Value w with
  | none => .pattern w
  | some x => .decimal (x.nearest (10 ^ places)) places

/-- `round6` (R227). -/
def round6 (w : F32) : HostValue := roundPlaces 6 w

/-- `round3` (R228). -/
def round3 (w : F32) : HostValue := roundPlaces 3 w

/-- The value itself lies between `lo` and `hi`. -/
def FiniteF32.within (x : FiniteF32) (lo hi : Int) : Bool :=
  decide (lo * 2 ^ x.down ≤ signed x.neg (x.mant * 2 ^ x.up) ∧
    signed x.neg (x.mant * 2 ^ x.up) ≤ hi * 2 ^ x.down)

/-- `trunc` for a host whose integers run from `lo` to `hi`; no value for a NaN, an infinity or a
number `x` outside that range (R229). -/
def truncWithin (lo hi : Int) (w : F32) : HostValue :=
  match f32Value w with
  | none => .noValue
  | some x => if x.within lo hi then .int x.truncated else .noValue

/-- `ack`: the rounded integer equals 1; false for NaN and the infinities (R230). -/
def ackOf (w : F32) : Bool :=
  match f32Value w with
  | none => false
  | some x => decide (x.nearest 1 = 1)

/-- The binary64 value nearest to `num / den`, as its bit pattern; `num / den` lies in the normal
range for every rounded binary32. -/
def binary64Ratio (neg : Bool) (num den : Nat) : BitVec 64 :=
  if num = 0 then 0
  else
    let guess := num.log2 + 1100 - den.log2
    -- the exponent of the leading bit, plus 1100
    let e := if num * 2 ^ 1100 < den * 2 ^ guess then guess - 1 else guess
    let m := roundHalfEven (num * 2 ^ 1152) (den * 2 ^ e)
    let sign := if neg then 2 ^ 63 else 0
    -- `m` has its leading bit at 52; adding it lets a carry out of the rounding raise the exponent
    BitVec.ofNat 64 (sign + (e + 1023 - 1100 - 1) * 2 ^ 52 + m)

/-- A rounded value in binary64, the default `RESULT_FMT` (R7, R227): the value nearest to the decimal
number, an infinity as it is, a NaN as some NaN; the sign of a zero is free (log entry 21). -/
def toBinary64 : HostValue → HostValue
  | .decimal q places =>
    if q = 0 then .binary64 (if Config.zeroNegative then 0x8000000000000000 else 0)
    else .binary64 (binary64Ratio (decide (q < 0)) q.natAbs (10 ^ places))
  | .pattern w =>
    if f32Frac w = 0 then .binary64 (if w.msb then 0xFFF0000000000000 else 0x7FF0000000000000)
    else .binary64 (BitVec.ofBool (Config.nanBits w).1 ++ (0x7FF : BitVec 11) ++
      if (Config.nanBits w).2 = 0 then 1 else (Config.nanBits w).2)
  | .binary64 bits => .binary64 bits
  | .coded k code => .coded k code
  | .int z => .int z
  | .bool b => .bool b
  | .noValue => .noValue

/-- A rounded value in another format, of which only the number is known (log entry 21). -/
def toFormat (k : Nat) : HostValue → HostValue
  | .decimal q places => .coded k (Config.otherDecimal k q places)
  | .pattern w => .coded k (Config.otherPattern k w)
  | .binary64 bits => .binary64 bits
  | .coded j code => .coded j code
  | .int z => .int z
  | .bool b => .bool b
  | .noValue => .noValue

/-- Delivery of a rounded value in a number format, the parameter `RESULT_FMT` (R7, R227, R228). -/
def deliver (fmt : ResultFmt) (v : HostValue) : HostValue :=
  match fmt with
  | .binary64 => toBinary64 v
  | .other k => toFormat k v

/-- A row's transform on one value, delivered in `fmt` (R222, R227 to R230). -/
def transformIn (fmt : ResultFmt) (t : Transform) (w : F32) : HostValue :=
  match t with
  | .round6 => deliver fmt (Machine.round6 w)
  | .round3 => deliver fmt (Machine.round3 w)
  | .trunc => truncWithin (-(Config.hostIntRange.1 : Int)) Config.hostIntRange.2 w
  | .ack => .bool (ackOf w)
  | .plain => .pattern w

/-- A row's transform on one value at this host. -/
def applyTransform (t : Transform) (w : F32) : HostValue := transformIn Config.resultFmt t w

/-- What a typed operation returns when its `XFER` has completed: the success flag and the transform
of `F[0..n-1]`. On failure `F` is zero, so that the values are the zero placeholder (R222, R231). -/
def typedResult (p : Pending) (ok : Bool) (f : Vector F32 9) : TypedResult where
  ok := ok
  values := (f.toList.take p.arity).map (applyTransform p.transform)

end Sys2Proof.Machine
end

