-- ==== Sys2Proof/Machine/Ops.lean ====
section
/-! DEFINITION. The shared operations: the environment's answers, the six transport primitives (R66 to
R71), the marshaller (R124), the deserializer's register write (R142), block reset (R290). -/

namespace Sys2Proof.Machine

/-- The environment's `k`-th answer from here on (0 is the next one). -/
def Oracle.ahead (o : Oracle) (k : Nat) : Answer :=
  match o.tape.drop k with
  | a :: _ => a
  | [] => Config.answer (o.draws + (k - o.tape.length))

/-- The answers that remain after `k` of them were used. -/
def Oracle.after (o : Oracle) (k : Nat) : Oracle where
  tape := o.tape.drop k
  draws := o.draws + (k - o.tape.length)

/-- The environment's next answer. -/
def State.answer (s : State) : Answer := s.oracle.ahead 0

/-- The state once that answer is used. -/
def State.drawn (s : State) : State := { s with oracle := s.oracle.after 1 }

/-- The device appends bytes to `rxq`, which it can only while the transport is open (R72). -/
def Transport.arrive (t : Transport) (bytes : List Byte) : Transport :=
  if t.isOpen then { t with rxq := t.rxq ++ bytes } else t

/-- The transport sends `k` bytes from the front of `txq` (R62). -/
def Transport.transmit (t : Transport) (k : Nat) : Transport :=
  { t with wire := t.wire ++ t.txq.take k, txq := t.txq.drop k }

/-- The transport is closed: the queues cease to exist (R71), also where the environment closes it by
itself (R84; DESIGN CHOICE, safe: log entry 30). -/
def Transport.shut (t : Transport) : Transport :=
  { t with isOpen := false, txq := [], rxq := [] }

/-- A primitive that changes the transport to `t` and uses one answer. -/
def State.withTransport (s : State) (t : Transport) : State := { s.drawn with tr := t }

/-- Whether the primitive called next returns `Done`: the transport is open and reports no error (R84). -/
def State.primOk (s : State) : Bool := s.tr.isOpen && !s.answer.fault

/-- `RxDiscard()`: `rxq` is emptied of what has arrived; on `Fault` an unspecified number of bytes may
have gone (R69, R264; DEDUCED, safe: log entry 19). -/
def State.rxDiscard (s : State) : PrimResult × State :=
  let t := s.tr.arrive s.answer.arrive
  if s.primOk then (.done, s.withTransport { t with rxq := [] })
  else (.fault, s.withTransport { t with rxq := t.rxq.drop s.answer.sent })

/-- How many bytes of `v` the `MemWrite` called next appends to `txq`: all of them, or on `Fault` an
unspecified number (R66), none if the transport is closed. -/
def State.written (s : State) (v : List Byte) : Nat :=
  if s.primOk then v.length else if s.tr.isOpen then min s.answer.sent v.length else 0

/-- `MemWrite(TXS, len(v), v)` (R66). -/
def State.memWrite (s : State) (v : List Byte) : PrimResult × State :=
  let t := s.tr.arrive s.answer.arrive
  (if s.primOk then .done else .fault,
    s.withTransport { t with txq := t.txq ++ v.take (s.written v) })

/-- `TxDrain()`: on `Done` every byte written so far is on the wire; on `Fault` some of them may be
(R67; DEDUCED, safe: log entries 17 and 19). -/
def State.txDrain (s : State) : PrimResult × State :=
  let t := s.tr.arrive s.answer.arrive
  if s.primOk then (.done, s.withTransport (t.transmit t.txq.length))
  else if s.tr.isOpen then (.fault, s.withTransport (t.transmit s.answer.sent))
  else (.fault, s.withTransport t)

/-- `MemRead(RXS, N)` (R68). With `N` bytes in `rxq` it returns them at once; otherwise it waits, bytes
arrive, and it returns when it has `N`, or the window ends, or the transport faults. With a
zero-length window nothing that arrives later is taken (R35). DEDUCED, unsafe: log entries 14 and 18. -/
def State.memRead (s : State) (N : Nat) : ReadResult × State :=
  let late := s.tr.arrive s.answer.arrive
  if !s.tr.isOpen then (.fault, s.withTransport s.tr)
  else if N ≤ s.tr.rxq.length then
    (.bytes (s.tr.rxq.take N), s.withTransport { late with rxq := late.rxq.drop N })
  else if s.lTimeout = 0 then
    (if s.answer.fault then .fault else .bytes s.tr.rxq,
      s.withTransport { late with rxq := s.answer.arrive })
  else if N ≤ late.rxq.length then
    (.bytes (late.rxq.take N), s.withTransport { late with rxq := late.rxq.drop N })
  else
    (if s.answer.fault then .fault else .bytes late.rxq, s.withTransport { late with rxq := [] })

/-- The arguments of `Open`: `CFG_PORT`, `CFG_BAUD` and `CFG_TIMEOUT` unchanged (R33 to R35, R202). -/
def Cfg.openCall (c : Cfg) : OpenCall where
  port := c.port
  baud := c.baud
  timeout := c.timeout

/-- `Open(port, baud, timeout)`: the transport gets the three arguments; on `Done` it is open and its
queues hold anything; on `Fault` nothing else changes (R70; DEDUCED, unsafe: log entry 19). -/
def State.openPort (s : State) (c : OpenCall) : PrimResult × State :=
  let t : Transport := { s.tr with openCall := some c }
  if s.answer.fault then (.fault, s.withTransport t)
  else (.done, s.withTransport
    { t with isOpen := true, rxq := s.answer.arrive, txq := s.answer.leftover })

/-- `Close()`: the transport is closed; bytes still in `txq` may or may not have been sent; `Done` or
`Fault` makes no difference (R71, R209). -/
def State.closePort (s : State) : State := s.withTransport (s.tr.transmit s.answer.sent).shut

/-- `MARSHAL(cmd, p)`: writes `FB`, `flen`, `csum` (R124). -/
def State.marshal (s : State) (cmd : Byte) (p : List Byte) : State :=
  { s with fb := frameOf cmd p, flen := BitVec.ofNat 9 (Config.codec.frameOverhead + p.length),
           csum := frameSum cmd p }

/-- The result file with the values `v` in its first registers, the others kept (R142). -/
def loadFile (f : Vector F32 9) (v : List F32) : Vector F32 9 :=
  #v[v.getD 0 f[0], v.getD 1 f[1], v.getD 2 f[2], v.getD 3 f[3], v.getD 4 f[4], v.getD 5 f[5],
    v.getD 6 f[6], v.getD 7 f[7], v.getD 8 f[8]]

/-- The typed call has returned `r` to its caller. -/
def State.returned (s : State) (r : TypedResult) : State := { s with call := none, ret := some r }

/-- The typed call returns to its caller once its operation has completed (R222). -/
def State.settle (s : State) : State :=
  if s.busy then s
  else
    match s.call with
    | none => s
    | some p => s.returned (typedResult p s.ok s.f)

/-- The `reset` input: the block takes its reset values (R48, R290), an operation and a typed call in
progress are abandoned, and the transport is in any state afterwards, what was handed over staying
handed over (R291). -/
def State.resetBlock (s : State) : State :=
  let a := s.answer
  let t := s.tr.transmit a.sent
  { State.reset with
    tr := { t with isOpen := a.isOpen, txq := a.leftover, rxq := a.arrive, wire := t.wire ++ a.wire }
    oracle := s.oracle.after 1
    inputs := s.inputs
    burst := s.burst
    ret := s.ret }

end Sys2Proof.Machine
end

