-- ==== Sys2Proof/Machine/Sequencer.lean ====
section
/-! DEFINITION. The request/response sequencer: one definition per state of R28, the transition table
of R180 with R202 to R209 for the session states, and the run of an operation. -/

namespace Sys2Proof.Machine

/-- The assigned operation codes (R104). -/
def opEncode : BitVec 4 := 1
def opEncodeNp : BitVec 4 := 2
def opSend : BitVec 4 := 3
def opRecv : BitVec 4 := 4
def opXfer : BitVec 4 := 5
def opConnect : BitVec 4 := 6
def opDisconnect : BitVec 4 := 7

/-- The bytes a reply of the latched arity has (R101). -/
def State.replySize (s : State) : Nat := 4 * s.d.n.toNat

/-- The bound on probe attempts, 0 being treated as 1 (R37, R206). -/
def State.probeBound (s : State) : Nat := max 1 s.cfg.probeAttempts.toNat

/-- The session exists (R203, R204). -/
def State.openSession (s : State) : State := { s with sess := true }

/-- The session does not exist any more (R209). -/
def State.endSession (s : State) : State := { s with sess := false }

/-- "succeed" of R180: success completion, or inside `CONNECT` a successful probe, which makes the
session (R204). -/
def State.exchangeSucceeds (s : State) : State :=
  if s.d.op = opConnect then s.openSession.succeed else s.succeed

/-- "fail(k)" of R180: failure completion, or inside `CONNECT` a failed attempt, followed by the sleep
or, if it was the last, by the close (R205, R206). -/
def State.exchangeFails (s : State) (k : Err) : State :=
  if s.d.op = opConnect then
    if s.probeBound ≤ s.attempt.toNat then s.goto .closing else s.goto .probeSleep
  else s.failWith k

/-- The payload that `S_ENCODE` marshals: none for `ENCODE_NP`, whatever `plen` says (R103, R126). -/
def State.payloadInUse (s : State) : List Byte :=
  if s.d.op = opEncodeNp then [] else s.d.pay.take s.d.plen.toNat

/-- `S_ENCODE` (R165). -/
def State.tickEncode (s : State) : State :=
  if s.d.op = opEncode ∨ s.d.op = opEncodeNp then (s.marshal s.d.cmd s.payloadInUse).succeed
  else (s.marshal s.d.cmd s.payloadInUse).goto .preclear

/-- `tx_idx` counts `k` frame bytes handed to the transport (R29). -/
def State.handed (s : State) (k : Nat) : State := { s with txIdx := BitVec.ofNat 9 k }

/-- `S_PRECLEAR` (R167); `tx_idx` is 0 on entry to `S_TX` (R29). -/
def State.tickPreclear (s : State) : State :=
  if s.cfg.preclear then
    match s.rxDiscard with
    | (.done, t) => (t.handed 0).goto .tx
    | (.fault, t) => t.exchangeFails .transportFault
  else (s.handed 0).goto .tx

/-- `S_TX`: the whole frame in one `MemWrite` (R168); `tx_idx` counts the bytes handed over (R29). -/
def State.tickTx (s : State) : State :=
  match s.memWrite s.fb with
  | (.done, t) => (t.handed (s.written s.fb)).goto .txDrain
  | (.fault, t) => (t.handed (s.written s.fb)).exchangeFails .transportFault

/-- `S_TXDRAIN` (R169). -/
def State.tickTxDrain (s : State) : State :=
  match s.txDrain with
  | (.fault, t) => t.exchangeFails .transportFault
  | (.done, t) =>
    if t.d.op = opSend then t.succeed
    else if t.d.n = 0 then t.exchangeSucceeds
    else t.goto .rxWait

/-- The bytes a read returned are stored in `RXB` and counted (R172). -/
def State.received (s : State) (b : List Byte) : State :=
  { s with rxb := b, rxCnt := BitVec.ofNat 6 b.length }

/-- `S_RXWAIT`: one `MemRead` of the whole reply (R172, R173). -/
def State.tickRxWait (s : State) : State :=
  match s.memRead s.replySize with
  | (.fault, t) => t.exchangeFails .transportFault
  | (.bytes b, t) =>
    if b.length = s.replySize then (t.received b).goto .decode else (t.received b).goto .resync

/-- The decode micro-sequence: `F[0..n-1]` from `RXB`, the others kept (R142). -/
def State.decoded (s : State) : State :=
  { s with f := loadFile s.f (unpack (s.rxb.take s.replySize)) }

/-- `S_DECODE` (R142, R174). -/
def State.tickDecode (s : State) : State := s.decoded.exchangeSucceeds

/-- `S_RESYNC`: one `RxDiscard`, its result ignored (R175, R264). -/
def State.tickResync (s : State) : State := s.rxDiscard.2.exchangeFails .timeout

/-- A new probe attempt: count it, then marshal the probe frame (R200, R205). -/
def State.nextAttempt (s : State) : State := { s with attempt := s.attempt + 1, seq := .encode }

/-- The arity a probe uses: `CFG_PROBE_N`, a free legal one if it holds an illegal value (R37). -/
def Cfg.probeArity (c : Cfg) : BitVec 4 :=
  if c.probeN.toNat ≤ Config.nMax then c.probeN
  else BitVec.ofNat 4 (Config.illegalProbeArity c.probeN).val

/-- `CONNECT` copies `CFG_TIMEOUT` into `L_TIMEOUT` when it calls `Open` (R38, R202). -/
def State.latchTimeout (s : State) : State := { s with lTimeout := s.cfg.timeout }

/-- The latch takes the probe's command, empty payload and arity (R200). -/
def State.latchProbe (s : State) : State :=
  { s with d := { s.d with cmd := s.cfg.probeCmd, plen := 0, pay := [], n := s.cfg.probeArity } }

/-- `S_OPEN` (R202), then the session at once if the probe is disabled (R203), else the first attempt
(R200). -/
def State.tickOpen (s : State) : State :=
  match s.latchTimeout.openPort s.cfg.openCall with
  | (.fault, t) => t.failWith .transportFault
  | (.done, t) =>
    if t.cfg.probeEn then t.latchProbe.nextAttempt else t.openSession.succeed

/-- `S_PROBE_SLEEP`: `Sleep` changes no state; then the next attempt (R207, R300; log entry 4). -/
def State.tickProbeSleep (s : State) : State := s.nextAttempt

/-- `S_CLOSE` (R209): for `DISCONNECT` success (R208); for `CONNECT` the open that follows the close of
an old session (R201), or after the last failed attempt the failure (R206); `attempt` tells the two apart
(DEDUCED, safe: log entry 13). -/
def State.tickClose (s : State) : State :=
  if s.d.op = opConnect then
    if s.attempt = 0 then s.closePort.endSession.goto .opening
    else s.closePort.endSession.failWith .connectFailed
  else s.closePort.endSession.succeed

/-- One transition of the sequencer (R180). `S_IDLE` waits for a descriptor, `S_FATAL` is absorbing. -/
def State.tick (s : State) : State :=
  match s.seq with
  | .idle => s
  | .encode => s.tickEncode
  | .preclear => s.tickPreclear
  | .tx => s.tickTx
  | .txDrain => s.tickTxDrain
  | .rxWait => s.tickRxWait
  | .decode => s.tickDecode
  | .resync => s.tickResync
  | .opening => s.tickOpen
  | .probeSleep => s.tickProbeSleep
  | .closing => s.tickClose
  | .fatal => s

/-- The sequencer rests: it waits for a descriptor, or for reset (R180). -/
def Seq.resting : Seq → Bool
  | .idle => true
  | .fatal => true
  | _ => false

/-- At most `k` transitions, stopping where the sequencer rests. -/
def State.run : Nat → State → State
  | 0, s => s
  | k + 1, s => if s.seq.resting then s else State.run k s.tick

/-- More transitions than any operation has: `CONNECT` makes at most 15 attempts of 7 states each,
and opens and closes. -/
def opTicks : Nat := 128

/-- The operation goes on until it is over, or until the outside world is looked at (log entry 2). -/
def State.pursue (s : State) : State := (s.run (s.burst.getD opTicks)).settle

/-- An operation in progress goes on by at least one transition. -/
def State.proceed (s : State) : State := (s.run (max 1 (s.burst.getD opTicks))).settle

/-- A descriptor is presented: not accepted while `busy` or `fatal`, and nothing changes (R44); fatal if
ill-formed (R164 (1)); otherwise `started`, the state at the operation's first sequencer state, goes
on. -/
def State.submit (s : State) (wellFormed : Bool) (started : State) : State :=
  if !s.ready then s else if !wellFormed then s.enterFatal else started.pursue

end Sys2Proof.Machine
end

