-- ==== Sys2Proof/Machine/Codec.lean ====
section
/-! DEFINITION. The codec instructions `ENCODE` and `ENCODE_NP` (R125, R126): no session needed, the
transport not touched. -/

namespace Sys2Proof.Machine

/-- `ENCODE cmd, payload` (R125). -/
def execEncode (n : BitVec 4) (cmd : Byte) (payload : List Byte) (s : State) :
    Host.Outcome State Fault Refusal :=
  let l : Latch :=
    { op := opEncode, n := n, cmd := cmd, plen := BitVec.ofNat 8 payload.length, pay := payload }
  .next (s.submit (payloadFits payload) ((s.accept l none).goto .encode))

/-- `ENCODE_NP cmd` (R126); no descriptor of it is ill-formed. -/
def execEncodeNp (n : BitVec 4) (cmd : Byte) (ign : Ignored) (s : State) :
    Host.Outcome State Fault Refusal :=
  let l := latchIgnored opEncodeNp n cmd ign
  .next (s.submit true ((s.accept l none).goto .encode))

end Sys2Proof.Machine
end

