-- ==== Sys2Proof/Machine/Engine.lean ====
section
/-! DEFINITION. The request/response instructions `SEND`, `RECV`, `XFER` (R160 to R162), the pseudo-forms
of `XFER` (R114), and the reserved operation codes (R110). -/

namespace Sys2Proof.Machine

/-- `SEND` once accepted: the session check, then `S_ENCODE` (R160, R164, R180). -/
def State.startSend (s : State) : State :=
  if s.sess then s.goto .encode else s.failWith .transportUnavailable

/-- `RECV` once accepted: results cleared, session check, arity 0 done at once, else the read (R161,
R170, R180). -/
def State.startRecv (s : State) : State :=
  if !s.sess then s.clearResults.failWith .transportUnavailable
  else if s.d.n = 0 then s.clearResults.succeed
  else s.clearResults.goto .rxWait

/-- `XFER` once accepted: results cleared, session check, then `S_ENCODE` (R162, R180). -/
def State.startXfer (s : State) : State :=
  if s.sess then s.clearResults.goto .encode else s.clearResults.failWith .transportUnavailable

/-- The descriptor of an `XFER`. -/
def xferLatch (n : Nat) (cmd : Byte) (payload : List Byte) : Latch where
  op := opXfer
  n := BitVec.ofNat 4 n
  cmd := cmd
  plen := BitVec.ofNat 8 payload.length
  pay := payload

/-- An `XFER` presented, with the typed call it serves, if any (R162, R164 (1), R222). -/
def State.issueXfer (s : State) (n : Nat) (cmd : Byte) (payload : List Byte)
    (call : Option Pending) : State :=
  s.submit (payloadFits payload && decide (n ≤ Config.nMax))
    (s.accept (xferLatch n cmd payload) call).startXfer

/-- `SEND cmd, payload` (R160). -/
def execSend (n : BitVec 4) (cmd : Byte) (payload : List Byte) (s : State) :
    Host.Outcome State Fault Refusal :=
  let l : Latch :=
    { op := opSend, n := n, cmd := cmd, plen := BitVec.ofNat 8 payload.length, pay := payload }
  .next (s.submit (payloadFits payload) (s.accept l none).startSend)

/-- `RECV n` (R161). -/
def execRecv (n : Nat) (cmd : Byte) (ign : Ignored) (s : State) :
    Host.Outcome State Fault Refusal :=
  let l := latchIgnored opRecv (BitVec.ofNat 4 n) cmd ign
  .next (s.submit (decide (n ≤ Config.nMax)) (s.accept l none).startRecv)

/-- `XFER cmd, payload, n` (R162). -/
def execXfer (n : Nat) (cmd : Byte) (payload : List Byte) (s : State) :
    Host.Outcome State Fault Refusal :=
  .next (s.issueXfer n cmd payload none)

/-- `XFER.A cmd, n` (R114): shape (a). -/
def execXferA (n : Nat) (cmd : Byte) (s : State) : Host.Outcome State Fault Refusal :=
  .next (s.issueXfer n cmd [] none)

/-- `XFER.B cmd, pos, val` (R114): shape (b). -/
def execXferB (cmd pos : Byte) (val : F32) (s : State) : Host.Outcome State Fault Refusal :=
  .next (s.issueXfer 1 cmd (packB pos val) none)

/-- `XFER.C cmd, a, b, c` (R114): shape (c). -/
def execXferC (cmd : Byte) (a b c : F32) (s : State) : Host.Outcome State Fault Refusal :=
  .next (s.issueXfer 0 cmd (packC a b c) none)

/-- A reserved operation code: the descriptor is refused and no state changes (R110, R11). -/
def execReservedOp (_op : BitVec 4) (_rest : BitVec 20) (s : State) :
    Host.Outcome State Fault Refusal :=
  .next s

end Sys2Proof.Machine
end

