-- ==== Sys2Proof/Machine/Session.lean ====
section
/-! DEFINITION. The session instructions `CONNECT` and `DISCONNECT` (R200, R208). -/

namespace Sys2Proof.Machine

/-- No probe attempt made yet (R30). -/
def State.noAttempt (s : State) : State := { s with attempt := 0 }

/-- `CONNECT` once accepted: attempts counted from 0, results cleared, an old session closed first
(R200, R201, R180). -/
def State.startConnect (s : State) : State :=
  if s.sess then s.clearResults.noAttempt.goto .closing else s.clearResults.noAttempt.goto .opening

/-- `DISCONNECT` once accepted: close an open session, else done at once (R208, R180). -/
def State.startDisconnect (s : State) : State :=
  if s.sess then s.goto .closing else s.succeed

/-- `CONNECT` (R200). -/
def execConnect (n : BitVec 4) (cmd : Byte) (ign : Ignored) (s : State) :
    Host.Outcome State Fault Refusal :=
  let l := latchIgnored opConnect n cmd ign
  .next (s.submit true (s.accept l none).startConnect)

/-- `DISCONNECT` (R208). -/
def execDisconnect (n : BitVec 4) (cmd : Byte) (ign : Ignored) (s : State) :
    Host.Outcome State Fault Refusal :=
  let l := latchIgnored opDisconnect n cmd ign
  .next (s.submit true (s.accept l none).startDisconnect)

end Sys2Proof.Machine
end

