-- ==== Sys2Proof/Machine/Typed.lean ====
section
/-! DEFINITION. The typed operations of the host (R222 to R226): each executes exactly one `XFER` and
returns its transformed results (log entry 20). `readQuat` and `readRPY` are rows of the opcode table. -/

namespace Sys2Proof.Machine

/-- `readQuat()`: `XFER.A 0x01, 4`, each value through `round6` (R223). -/
def execReadQuat (s : State) : Host.Outcome State Fault Refusal :=
  .next (s.issueXfer 4 0x01 [] (some { arity := 4, transform := .round6 }))

/-- `readRPY()`: `XFER.A 0x02, 3`, each value through `round6` (R224). -/
def execReadRPY (s : State) : Host.Outcome State Fault Refusal :=
  .next (s.issueXfer 3 0x02 [] (some { arity := 3, transform := .round6 }))

/-- A row of the typed operation table: command id, payload (the request shape applied to its
operands), reply arity, transform (R222). -/
structure TypedRow where
  cmd : Byte
  payload : List Byte
  arity : Nat
  transform : Transform
deriving DecidableEq, Repr

/-- A request shape applied to its operands (R96 to R98). -/
def shapePayload (sh : Shape) (slot : Slot) (a b c : F32) : List Byte :=
  match sh with
  | .a => []
  | .b => packB (Config.pos slot) a
  | .c => packC a b c

/-- The payload of an operation whose shape R222 leaves open: the shape of its registry entry applied to
its operand. -/
def openPayload (c : CmdName) (slot : Slot) (val : F32) : List Byte :=
  shapePayload (Config.entryAt (Config.placeOf c)).shape slot val 0 0

/-- The row of a magnetometer operation: shape and arity are those of its registry entry (R220, R222; log
entry 15). -/
def magTypedRow (o : MagOp) (a b c : F32) : TypedRow where
  cmd := Config.idAt (Config.magPlace o).succ
  payload := shapePayload (Config.entryAt (Config.magPlace o).succ).shape (.magnetometer o) a b c
  arity := (Config.entryAt (Config.magPlace o).succ).arity
  transform := Config.magTransform o

/-- The typed operation table (R222 to R226). A vector write returns no value (arity 0); getting the
world-frame id is `GET_FRAME_ID`, of shape (a) (R108, R220). -/
def TypedOp.row : TypedOp → TypedRow
  | .readQuat => ⟨0x01, [], 4, .round6⟩
  | .readRPY => ⟨0x02, [], 3, .round6⟩
  | .readAccel => ⟨Config.cmdOf .readAccel, [], 3, .round6⟩
  | .readGyro => ⟨Config.cmdOf .readGyro, [], 3, .round6⟩
  | .readMag => ⟨Config.cmdOf .readMag, [], 3, .round6⟩
  | .readAccelGyro => ⟨Config.cmdOf .readAccelGyro, [], 6, .round6⟩
  | .readImuData => ⟨Config.cmdOf .readImuData, [], 9, .round6⟩
  | .getFilterGain v =>
    ⟨Config.cmdOf .getFilterGain, packB (Config.pos .filterGain) v, 1, .round3⟩
  | .getCutoff v => ⟨Config.cmdOf .getCutoff, packB (Config.pos .cutoff) v, 1, .round3⟩
  | .setFilterGain v => ⟨Config.cmdOf .setFilterGain, packB (Config.pos .filterGain) v, 1, .ack⟩
  | .setI2CAddress v => ⟨Config.cmdOf .setI2CAddress, packB (Config.pos .i2cAddress) v, 1, .ack⟩
  | .setWorldFrameId v =>
    ⟨Config.cmdOf .setWorldFrameId, packB (Config.pos .worldFrameId) v, 1, .ack⟩
  | .getWorldFrameId => ⟨Config.probeCmd, [], 1, .trunc⟩
  | .getI2CAddress v =>
    ⟨Config.cmdOf .getI2CAddress, openPayload .getI2CAddress .i2cAddress v, 1, .trunc⟩
  | .resetParams v => ⟨Config.cmdOf .resetParams, openPayload .resetParams .resetParams v, 1, .ack⟩
  | .clearBuffer v => ⟨Config.cmdOf .clearBuffer, openPayload .clearBuffer .clearBuffer v, 1, .ack⟩
  | .writeOffset a b c => ⟨Config.cmdOf .writeOffset, packC a b c, 0, .plain⟩
  | .writeVector k a b c => ⟨Config.idAt (Config.vectorPlace k), packC a b c, 0, .plain⟩
  | .magnetometer o a b c => magTypedRow o a b c

/-- A typed call: one `XFER`, whose completion returns to the caller (R222). -/
def State.typedCall (s : State) (t : TypedOp) : State :=
  s.issueXfer t.row.arity t.row.cmd t.row.payload
    (some { arity := t.row.arity, transform := t.row.transform })

end Sys2Proof.Machine
end

