-- ==== Sys2Proof/Machine/Wire.lean ====
section
/-! DEFINITION. The wire rows of the opcode table: a request frame taken off the wire by the device
(R6, R90, R94 to R98, R105, R107, R108). The block never parses a frame (R122), so no block state
changes; what the device answers, to a right or a wrong checksum, is any bytes (R72). -/

namespace Sys2Proof.Machine

/-- The device takes a frame and appends any bytes to `rxq`, while the transport is open (R72; DESIGN
CHOICE, safe: log entry 22). -/
def State.deviceTakes (s : State) (frame : List Byte) : State :=
  let t := s.tr.arrive s.answer.arrive
  s.withTransport { t with taken := t.taken ++ [frame] }

/-- What is on the wire is no whole frame: the device may drop any of it and answer anything (R72). -/
def State.deviceIdles (s : State) : State :=
  let t := s.tr.arrive s.answer.arrive
  s.withTransport { t with wire := t.wire.drop s.answer.sent }

/-- `FRAME_A` (R96). -/
def execFrameA (cmd chk : Byte) (s : State) : Host.Outcome State Fault Refusal :=
  .next (s.deviceTakes (wireFrame cmd [] chk))

/-- `FRAME_B` (R97). -/
def execFrameB (cmd pos : Byte) (val : F32) (chk : Byte) (s : State) :
    Host.Outcome State Fault Refusal :=
  .next (s.deviceTakes (wireFrame cmd (packB pos val) chk))

/-- `FRAME_C` (R98). -/
def execFrameC (cmd : Byte) (a b c : F32) (chk : Byte) (s : State) :
    Host.Outcome State Fault Refusal :=
  .next (s.deviceTakes (wireFrame cmd (packC a b c) chk))

/-- `FRAME` (R90). -/
def execFrame (cmd : Byte) (payload : List Byte) (chk : Byte) (s : State) :
    Host.Outcome State Fault Refusal :=
  .next (s.deviceTakes (wireFrame cmd payload chk))

/-- `READ_QUAT`, `BB 01 00 BC` (R107). -/
def execReadQuatFrame (s : State) : Host.Outcome State Fault Refusal :=
  .next (s.deviceTakes (frameOf 0x01 []))

/-- `READ_RPY`, `BB 02 00 BD` (R107). -/
def execReadRpyFrame (s : State) : Host.Outcome State Fault Refusal :=
  .next (s.deviceTakes (frameOf 0x02 []))

/-- `GET_FRAME_ID`, the frame of `PROBE_CMD` (R108). -/
def execGetFrameId (chk : Byte) (s : State) : Host.Outcome State Fault Refusal :=
  .next (s.deviceTakes (wireFrame Config.probeCmd [] chk))

end Sys2Proof.Machine
end

