-- ==== Sys2Proof/Machine/Dispatch.lean ====
section
/-! DEFINITION. One arm per instruction. -/

namespace Sys2Proof.Machine

def exec (i : Instr) (s : State) : Host.Outcome State Fault Refusal :=
  match i with
  | .encode n cmd payload => Sys2Proof.Machine.execEncode n cmd payload s
  | .encodeNp n cmd ign => Sys2Proof.Machine.execEncodeNp n cmd ign s
  | .send n cmd payload => Sys2Proof.Machine.execSend n cmd payload s
  | .recv n cmd ign => Sys2Proof.Machine.execRecv n cmd ign s
  | .xfer n cmd payload => Sys2Proof.Machine.execXfer n cmd payload s
  | .connect n cmd ign => Sys2Proof.Machine.execConnect n cmd ign s
  | .disconnect n cmd ign => Sys2Proof.Machine.execDisconnect n cmd ign s
  | .xferA n cmd => Sys2Proof.Machine.execXferA n cmd s
  | .xferB cmd pos val => Sys2Proof.Machine.execXferB cmd pos val s
  | .xferC cmd a b c => Sys2Proof.Machine.execXferC cmd a b c s
  | .frameA cmd chk => Sys2Proof.Machine.execFrameA cmd chk s
  | .frameB cmd pos val chk => Sys2Proof.Machine.execFrameB cmd pos val chk s
  | .frameC cmd a b c chk => Sys2Proof.Machine.execFrameC cmd a b c chk s
  | .frame cmd payload chk => Sys2Proof.Machine.execFrame cmd payload chk s
  | .readQuatFrame => Sys2Proof.Machine.execReadQuatFrame s
  | .readRpyFrame => Sys2Proof.Machine.execReadRpyFrame s
  | .getFrameId chk => Sys2Proof.Machine.execGetFrameId chk s
  | .readQuat => Sys2Proof.Machine.execReadQuat s
  | .readRPY => Sys2Proof.Machine.execReadRPY s
  | .reservedOp op rest => Sys2Proof.Machine.execReservedOp op rest s

end Sys2Proof.Machine
end

