-- ==== Sys2Proof/Machine/HostPort.lean ====
section
/-! DEFINITION. The host's access to the registers (R22, R23, R33 to R37, R39, R47). The host writes
`CFG_*` only, and only while the block is idle; it reads `CFG_*`, results, the frame and `STATUS`. -/

namespace Sys2Proof.Machine

/-- One control register written. -/
def Cfg.write (c : Cfg) : CfgWrite → Cfg
  | .port v => { c with port := v }
  | .baud v => { c with baud := v }
  | .timeout v => { c with timeout := v }
  | .preclear v => { c with preclear := v }
  | .probeEn v => { c with probeEn := v }
  | .probeAttempts v => { c with probeAttempts := v }
  | .probeSpacing v => { c with probeSpacing := v }
  | .probeCmd v => { c with probeCmd := v }
  | .probeN v => { c with probeN := v }

/-- The host writes a control register; ignored while `busy = 1` (R47). -/
def State.writeCfg (s : State) (w : CfgWrite) : State :=
  if s.busy then s else { s with cfg := s.cfg.write w }

/-- The control registers by name. -/
inductive CfgReg where
  | port | baud | timeout | preclear | probeEn | probeAttempts | probeSpacing | probeCmd | probeN
deriving DecidableEq, Repr

/-- The register that a write goes to. -/
def CfgWrite.reg : CfgWrite → CfgReg
  | .port _ => .port
  | .baud _ => .baud
  | .timeout _ => .timeout
  | .preclear _ => .preclear
  | .probeEn _ => .probeEn
  | .probeAttempts _ => .probeAttempts
  | .probeSpacing _ => .probeSpacing
  | .probeCmd _ => .probeCmd
  | .probeN _ => .probeN

/-- What a control register holds, in the form of the write that would put it there. -/
def Cfg.read (c : Cfg) : CfgReg → CfgWrite
  | .port => .port c.port
  | .baud => .baud c.baud
  | .timeout => .timeout c.timeout
  | .preclear => .preclear c.preclear
  | .probeEn => .probeEn c.probeEn
  | .probeAttempts => .probeAttempts c.probeAttempts
  | .probeSpacing => .probeSpacing c.probeSpacing
  | .probeCmd => .probeCmd c.probeCmd
  | .probeN => .probeN c.probeN

/-- The host reads a control register while `busy = 0` (R33 to R37). -/
def State.hostReadCfg (s : State) (r : CfgReg) : Option CfgWrite :=
  if s.busy then none else some (s.cfg.read r)

/-- The host reads `flen` while `busy = 0`, as it does the buffer whose length it is (R23, R46; DEDUCED,
safe: log entry 29). -/
def State.hostReadFlen (s : State) : Option (BitVec 9) :=
  if s.busy then none else some s.flen

/-- The host reads `ok` and `err` (R46), at any time, as it sees them in `STATUS` (R39; DEDUCED, safe: log
entry 29). -/
def State.hostReadOutcome (s : State) : Bool × Err := (s.ok, s.err)

/-- The host reads `F[i]` while `busy = 0` (R22). -/
def State.hostReadF (s : State) (i : Fin 9) : Option F32 :=
  if s.busy then none else some s.f[i]

/-- The host reads `FB[i]` while `busy = 0`: a frame byte, or for `flen <= i < 259` any value (R23). -/
def State.hostReadFB (s : State) (i : Fin 259) : Option Byte :=
  if s.busy then none
  else if i.val < s.flen.toNat then some (s.fb.getD i.val 0)
  else some (Config.freeFrameByte s.oracle.draws i.val)

end Sys2Proof.Machine
end

