-- ==== Sys2Proof/Machine/Fetch.lean ====
section
/-! DEFINITION. Fetching: what the outside world does next, and which instruction that makes the block
or the device run (R6, R44, R47, R83, R290). The block fetches no instructions from a memory; its
program is what the host presents (R83). -/

namespace Sys2Proof.Machine

/-- What a step does. -/
inductive Fetched where
  /-- Run this instruction in this state. -/
  | run (i : Instr) (s : State)
  /-- No instruction: this is the next state. -/
  | next (s : State)
  /-- No meaning. -/
  | refuse (r : Refusal)
deriving DecidableEq, Repr

/-- The four bits of `D_N` for a record-form `n`: `n` itself, or a free value where it does not fit
(DESIGN CHOICE, safe: log entry 27). -/
def recordN (n : Nat) : BitVec 4 := if n < 16 then BitVec.ofNat 4 n else Config.overlargeN n

/-- The eight bits of `D_PLEN` for a record-form payload: its length, or a free value where it does not
fit (DESIGN CHOICE, safe: log entry 27). -/
def recordPlen (payload : List Byte) : Byte :=
  if payload.length ≤ Config.maxPayload then BitVec.ofNat 8 payload.length
  else Config.overlongPlen payload.length

/-- The instruction of a descriptor in record form (R102, R104). An `n` over 15 or a payload over 255
bytes that the operation ignores is accepted (R103); one that it reads is a programming error. -/
def Descriptor.toInstr (d : Descriptor) : Instr :=
  let n := recordN d.n
  let plen := recordPlen d.payload
  let ign : Ignored := { plen := plen, bytes := d.payload.take plen.toNat }
  match d.op.toNat with
  | 1 => .encode n d.cmd d.payload
  | 2 => .encodeNp n d.cmd ign
  | 3 => .send n d.cmd d.payload
  | 4 => .recv d.n d.cmd ign
  | 5 => .ofXfer d.n d.cmd d.payload
  | 6 => .connect n d.cmd ign
  | 7 => .disconnect n d.cmd ign
  | _ => .reservedOp d.op (n ++ d.cmd ++ plen)

/-- The completion pulse lasts one step (R27; DEDUCED, safe: log entry 24). -/
def State.pulseOver (s : State) : State := { s with done := false }

/-- The input that was looked at has happened. -/
def State.inputsLeft (s : State) (rest : List Input) : State := { s with inputs := rest }

/-- The outside world's next input is looked at. A descriptor or a typed call presented while the block
is busy or fatal is held (R44) and the operation in progress goes on; so it does when there is no
input. -/
def fetch (s₀ : State) : Fetched :=
  let s := s₀.pulseOver
  match s.inputs with
  | [] => .next s.proceed
  | .packed hdr pay :: rest =>
    if s.ready then
      match decodeDescriptor hdr pay with
      | .ok (i, _) => .run i (s.inputsLeft rest)
      | .error e => .refuse (.undecodable e)
    else .next s.proceed
  | .record d :: rest =>
    if s.ready then .run d.toInstr (s.inputsLeft rest) else .next s.proceed
  | .call t :: rest =>
    if s.ready then .next ((s.inputsLeft rest).typedCall t) else .next s.proceed
  | .cfg w :: rest => .next ((s.inputsLeft rest).writeCfg w)
  | .reset :: rest => .next (s.inputsLeft rest).resetBlock
  | .arrive bytes :: rest =>
    .next { s.inputsLeft rest with tr := s.tr.arrive bytes }
  | .transmit k :: rest => .next { s.inputsLeft rest with tr := s.tr.transmit k }
  | .unplug :: rest => .next { s.inputsLeft rest with tr := s.tr.shut }
  | .deviceTurn :: rest =>
    match decodeFrame s.tr.wire with
    | .ok (i, left) => .run i { s.inputsLeft rest with tr := { s.tr with wire := left } }
    | .error _ => .next (s.inputsLeft rest).deviceIdles
  | .watch b :: rest => .next { s.inputsLeft rest with burst := b }

/-- An instruction's encoding placed where the next step fetches it: a descriptor at the host port, a
frame at the front of the wire with the device's turn next. -/
def State.placeCode (s : State) : Code → State
  | .desc hdr pay => { s with inputs := .packed hdr pay :: s.inputs }
  | .wire bytes =>
    { s with inputs := .deviceTurn :: s.inputs, tr := { s.tr with wire := bytes } }

end Sys2Proof.Machine
end

