-- ==== Sys2Proof/Machine/Step.lean ====
section
/-! DEFINITION. One step of the machine. -/

namespace Sys2Proof.Machine

/-- One step: the outside world's next input is looked at and, where it makes an instruction run, that
instruction is executed. -/
def step (s : State) : Host.Outcome State Fault Refusal :=
  match fetch s with
  | .run i t => exec i t
  | .next t => .next t
  | .refuse r => .refused r

/-- `s` with the instruction of a table word where the next step fetches it. -/
def State.withFetchWord (s : State) (nbits w : Nat) : State := s.placeCode (tableCode nbits w)

end Sys2Proof.Machine
end

