-- ==== Sys2Proof/Safety.lean ====
section
/-! DEFINITION. The terms claims use: good runs (R294), the conforming device as a premise (R72), what
an exchange finds and leaves (R166, R171, R181), and the invariant of the machine. -/

namespace Sys2Proof.Machine

/-- A run is over when the last accepted operation has completed (R294). -/
def State.isOver (s : State) : Prop := s.busy = false

/-- A run is good while no programming error was detected (R294). -/
def State.isGood (s : State) : Prop := s.fatal = false

/-- The premise `DeviceConforms` of R72 for one request frame: the reply has the `4*n` bytes that the
registry gives the command, and nothing for a command of arity 0. It is no rule of the machine. -/
def DeviceConforms (cmd : Byte) (reply : List Byte) : Prop :=
  ∀ e, registry cmd = some e → reply.length = 4 * e.arity

/-- How many answers of the environment an exchange uses before its `MemWrite` (R167). -/
def State.beforeWrite (s : State) : Nat := if s.cfg.preclear then 1 else 0

/-- How many answers `DO_SEND` uses when nothing faults (R166). -/
def State.sendAnswers (s : State) : Nat := s.beforeWrite + 2

/-- Pre-clear, write and drain all return `Done` (R166). -/
abbrev State.SendGoes (s : State) : Prop :=
  s.tr.isOpen = true ∧ (s.cfg.preclear = true → (s.oracle.ahead 0).fault = false) ∧
    (s.oracle.ahead s.beforeWrite).fault = false ∧
    (s.oracle.ahead (s.beforeWrite + 1)).fault = false

/-- What `rxq` holds when a successful `DO_SEND` returns: what arrived after the pre-clear, or without
pre-clear the old bytes too (R77). -/
def State.atHand (s : State) : List Byte :=
  (if s.cfg.preclear then []
    else s.tr.rxq) ++ (s.oracle.ahead s.beforeWrite).arrive ++
    (s.oracle.ahead (s.beforeWrite + 1)).arrive

/-- The transport when a successful `DO_SEND` of `frame` returns: everything is on the wire (R67, R74). -/
def State.trAfterSend (s : State) (frame : List Byte) : Transport where
  isOpen := true
  txq := []
  rxq := s.atHand
  wire := s.tr.wire ++ (s.tr.txq ++ frame)
  taken := s.tr.taken
  openCall := s.tr.openCall

/-- `MemRead` of `N` bytes finds them: `hand` in `rxq` at the call, `late` arriving in the window, which
a zero timeout shuts (R35, R68). -/
abbrev ReadIsFull (timeout : BitVec 16) (hand late : List Byte) (N : Nat) : Prop :=
  N ≤ hand.length ∨ (timeout ≠ 0 ∧ N ≤ (hand ++ late).length)

/-- `MemRead` of `N` bytes ends short (R68). -/
abbrev ReadIsShort (timeout : BitVec 16) (hand late : List Byte) (N : Nat) : Prop :=
  hand.length < N ∧ (timeout = 0 ∨ (hand ++ late).length < N)

/-- The bytes a short read has taken: with a zero window only those at hand (R35, R68). -/
def shortBytes (timeout : BitVec 16) (hand late : List Byte) : List Byte :=
  if timeout = 0 then hand else hand ++ late

/-- What a short read leaves in `rxq`: with a zero window what arrived too late, else nothing (R35, R68). -/
def leftUnread (timeout : BitVec 16) (late : List Byte) : List Byte :=
  if timeout = 0 then late else []

/-- What `rxq` holds after an `RxDiscard` that gets the answer `a`: nothing, or after a fault what an
unspecified number of dropped bytes left (R69, R264). -/
def afterDiscard (a : Answer) (q : List Byte) : List Byte :=
  if a.fault then (q ++ a.arrive).drop a.sent else []

/-- The block is idle and its next operation runs to its end before the outside world is looked at. -/
abbrev State.AtRest (s : State) : Prop := s.ready = true ∧ s.burst = none

/-- The value of a finite binary64 pattern, times `2^1074`: bit 63 the sign, bits 62:52 the biased exponent,
bits 51:0 the fraction; none for a NaN or an infinity (PRESUMED, IEEE 754: log entry 21). -/
def binary64Scaled (b : BitVec 64) : Option Int :=
  let e := b.toNat / 2 ^ 52 % 2 ^ 11
  let frac := b.toNat % 2 ^ 52
  if e = 2047 then none
  else if e = 0 then some (signed b.msb frac)
  else some (signed b.msb ((2 ^ 52 + frac) * 2 ^ (e - 1)))

/-- The state when a `SEND`-like part has completed as an operation: `l` latched, its frame made, sent
and drained (R160, R162 with `n = 0`). -/
def State.sentDone (s : State) (l : Latch) : State :=
  { s with
    d := l, fb := frameOf l.cmd l.pay, flen := BitVec.ofNat 9 (4 + l.pay.length),
    csum := frameSum l.cmd l.pay, txIdx := BitVec.ofNat 9 (4 + l.pay.length),
    tr := s.trAfterSend (frameOf l.cmd l.pay), oracle := s.oracle.after s.sendAnswers,
    ok := true, err := .noError, seq := .idle, busy := false, done := true, call := none }

/-- The bytes that arrive in the read window of an exchange (R68, R172). -/
def State.inWindow (s : State) : List Byte := (s.oracle.ahead s.sendAnswers).arrive

/-- The first `4*n` bytes that an exchange's read finds (R181 (4)). -/
def State.replyBytes (s : State) (n : Nat) : List Byte := (s.atHand ++ s.inWindow).take (4 * n)

/-- The state when an `XFER` with a reply has succeeded (R162, R181 (4)). -/
def State.xferDone (s : State) (l : Latch) : State :=
  { s.sentDone l with
    f := loadFile zeroFile (unpack (s.replyBytes l.n.toNat)),
    rxb := s.replyBytes l.n.toNat, rxCnt := BitVec.ofNat 6 (4 * l.n.toNat),
    tr := { s.trAfterSend (frameOf l.cmd l.pay) with
            rxq := (s.atHand ++ s.inWindow).drop (4 * l.n.toNat) },
    oracle := s.oracle.after (s.sendAnswers + 1) }

/-- The state when an `XFER`'s read came short, whatever its resync discard returned (R175, R176, R181
(5), R264). -/
def State.xferTimedOut (s : State) (l : Latch) : State :=
  { s.sentDone l with
    f := zeroFile, ok := false, err := .timeout,
    rxb := shortBytes s.lTimeout s.atHand s.inWindow,
    rxCnt := BitVec.ofNat 6 (shortBytes s.lTimeout s.atHand s.inWindow).length,
    tr := { s.trAfterSend (frameOf l.cmd l.pay) with
            rxq := afterDiscard (s.oracle.ahead (s.sendAnswers + 1))
              (leftUnread s.lTimeout s.inWindow) },
    oracle := s.oracle.after (s.sendAnswers + 2) }

/-- The state when a `SEND` has failed by a transport fault, `handed` bytes of its frame having been
written; its transport and its use of the environment's answers are to be said besides (R255, R262). -/
def State.sendFaulted (s : State) (l : Latch) (handed : Nat) : State :=
  { s.sentDone l with
    f := zeroFile, ok := false, err := .transportFault, txIdx := BitVec.ofNat 9 handed }

/-- The state when an `XFER` has failed by a transport fault, `handed` bytes of its frame having been
written; its transport and its use of the environment's answers are to be said besides (R255, R262). -/
def State.xferFaulted (s : State) (l : Latch) (handed : Nat) : State :=
  { s.sendFaulted l handed with rxb := [], rxCnt := 0 }

/-- What `CONNECT` starts its probes from once `Open` has returned `Done` (R70, R202). -/
def State.opened (s : State) : State :=
  { s with
    lTimeout := s.cfg.timeout, oracle := s.oracle.after 1,
    tr := { s.tr with isOpen := true, rxq := (s.oracle.ahead 0).arrive,
                      txq := (s.oracle.ahead 0).leftover, openCall := some s.cfg.openCall } }

/-- What `CONNECT` starts its next probe from when `Open` returned `Done` and `j` probes, at least one,
were sent to a device that stayed silent (R205, R207): their frames are on the wire. -/
def State.afterSilentProbes (s : State) (j : Nat) : State :=
  { s.opened with
    oracle := s.oracle.after (1 + j * (s.beforeWrite + 4)),
    tr := { s.opened.tr with
            txq := [], rxq := [],
            wire := s.tr.wire ++ (s.oracle.ahead 0).leftover ++
              (List.replicate j (frameOf s.cfg.probeCmd [])).flatten } }

/-- The latch of a probe within a `CONNECT` (R200). -/
def State.probeLatch (s : State) : Latch where
  op := opConnect
  n := s.cfg.probeArity
  cmd := s.cfg.probeCmd
  plen := 0
  pay := []

/-- The block's own state, without the environment, the outside world's inputs and the host's call:
two states agree on it when this is equal. -/
def State.blockOnly (s : State) : State :=
  { s with
    tr := { isOpen := false, txq := [], rxq := [], wire := [], taken := [], openCall := none },
    oracle := { tape := [], draws := 0 }, inputs := [], burst := none, call := none, ret := none }

/-- The states of an exchange, in which the arity and the payload of the latch are in use (R28). -/
def Seq.inExchange : Seq → Bool
  | .encode => true
  | .preclear => true
  | .tx => true
  | .txDrain => true
  | .rxWait => true
  | .decode => true
  | .resync => true
  | _ => false

/-- The states between the marshalling of a frame and the end of its transmission (R166). -/
def Seq.inSend : Seq → Bool
  | .preclear => true
  | .tx => true
  | .txDrain => true
  | _ => false

/-- The states of the receive sub-sequence (R171). -/
def Seq.inReceive : Seq → Bool
  | .rxWait => true
  | .decode => true
  | .resync => true
  | _ => false

/-- Which operations can be in which sequencer state (R180). -/
def Seq.admits (q : Seq) (op : BitVec 4) : Prop :=
  (q = .encode → op ∈ [opEncode, opEncodeNp, opSend, opXfer, opConnect]) ∧
  (q.inSend = true → op ∈ [opSend, opXfer, opConnect]) ∧
  (q.inReceive = true → op ∈ [opRecv, opXfer, opConnect]) ∧
  (q = .opening ∨ q = .probeSleep → op = opConnect) ∧
  (q = .closing → op ∈ [opConnect, opDisconnect])

/-- `FB` and `flen` are as reset left them, or hold a frame the marshaller made (R93, R182). -/
def State.frameOk (s : State) : Prop :=
  (s.fb = [] ∧ s.flen = 0) ∨
    ∃ cmd p, p.length ≤ Config.maxPayload ∧ s.fb = frameOf cmd p ∧ s.flen.toNat = 4 + p.length

/-- The invariant of the machine: what every step keeps, in idle, running and fatal states. -/
structure Inv (s : State) : Prop where
  /-- `busy = 0` exactly in `S_IDLE` (R27, R182). -/
  idle_iff : s.busy = false ↔ s.seq = .idle
  /-- `fatal = 1` exactly in `S_FATAL` (R32). -/
  fatal_iff : s.fatal = true ↔ s.seq = .fatal
  /-- `done` is raised at completion only (R27, R46). -/
  done_idle : s.done = true → s.busy = false
  /-- `ok = 1` implies `err = NONE` (R26, R182). -/
  ok_err : s.ok = true → s.err = .noError
  /-- A fatal entry reports the programming error (R258). -/
  fatal_err : s.fatal = true → s.ok = false ∧ s.err = .programmingError
  /-- Unless fatal, `ok = 0` goes with results all zero (R176, R262). -/
  fail_zero : s.ok = false → s.fatal = false → s.f = zeroFile
  /-- The frame buffer holds a frame or nothing (R93, R182). -/
  frame : s.frameOk
  /-- While a frame is sent there is one (R166). -/
  frame_sent : s.seq.inSend = true → s.fb ≠ []
  /-- `rx_cnt` counts the received bytes, at most 36 (R24). -/
  rx_count : s.rxCnt.toNat = s.rxb.length ∧ s.rxb.length ≤ 36
  /-- A latched payload fits (R91). -/
  payload_fits : s.d.pay.length ≤ Config.maxPayload
  /-- In an exchange, and between probe attempts, the latched arity is legal (R101, R164). -/
  arity_legal : s.seq.inExchange = true ∨ s.seq = .probeSleep →
    s.d.op ∈ [opRecv, opXfer, opConnect] → s.d.n.toNat ≤ Config.nMax
  /-- The receive states are entered for `n >= 1` only (R170). -/
  receive_some : s.seq.inReceive = true → s.d.n ≠ 0
  /-- `S_DECODE` has the whole reply, `S_RESYNC` less (R173). -/
  decode_full : s.seq = .decode → s.rxb.length = s.replySize
  resync_short : s.seq = .resync → s.rxb.length < s.replySize
  /-- The sequencer is in a state of the operation in progress (R180). -/
  admitted : s.seq.admits s.d.op
  /-- Exchanges other than a probe's need a session (R164, R210). -/
  session_open : s.seq.inExchange = true → s.d.op ∈ [opSend, opRecv, opXfer] → s.sess = true
  /-- During `CONNECT` the session is 0 but while the old one is closed (R210). -/
  connecting : s.d.op = opConnect → s.seq.inExchange = true ∨ s.seq = .opening ∨ s.seq = .probeSleep →
    s.sess = false
  /-- Probe attempts are counted from 1 and bounded (R30, R206). -/
  attempt_bound : s.d.op = opConnect → s.seq.inExchange = true →
    1 ≤ s.attempt.toNat ∧ s.attempt.toNat ≤ s.probeBound
  /-- The sleep is followed by one more attempt (R207). -/
  sleep_bound : s.seq = .probeSleep → s.attempt.toNat < s.probeBound
  /-- The open comes before any attempt (R200). -/
  open_first : s.seq = .opening → s.attempt = 0
  /-- A typed call is pending only while its `XFER` runs (R222). -/
  call_running : s.call ≠ none → s.busy = true ∧ s.d.op = opXfer

end Sys2Proof.Machine
end

