-- ==== Sys2Proof/Certificates/Slice0/Obligations.lean ====
section
/-! DEFINITION. The statements for the provers. Each says what an instruction or the machine does by the
numbered rules of the spec; `{ s with … }` names every field that changes, so that each result statement
is also the instruction's frame. -/

open Sys2Proof Sys2Proof.Machine

/-! ## Encodings -/

/-- Decoding the encoding of a well-formed instruction answers the most specific row that spells its
word, and uses all of it.
Choices of the model used: log entry 11. -/
def Obligations.DecodeEncodeRoundTrip : Prop :=
  ∀ i : Instr, i.wf = true → decode (encode i) = .ok (i.canon, [])

/-- No bit of a descriptor or a frame is dropped: what decodes is well formed, its own most specific
spelling, and encodes to the bits it was read from.
Choices of the model used: log entry 11. -/
def Obligations.EncodeInvertsDecode : Prop :=
  (∀ (h : Header) (pay : List Byte) (i : Instr) (left : List Byte),
    decode (.desc h pay) = .ok (i, left) →
      i.wf = true ∧ i.canon = i ∧ ∃ used, encode i = .desc h used ∧ pay = used ++ left) ∧
  (∀ (bytes : List Byte) (i : Instr) (left : List Byte),
    decode (.wire bytes) = .ok (i, left) →
      i.wf = true ∧ i.canon = i ∧ ∃ used, encode i = .wire used ∧ bytes = used ++ left)

/-- Executing an instruction and executing the most specific row that spells the same word leave the
same block and the same environment.
Choices of the model used: log entry 11. -/
def Obligations.CanonicalSpellingSameEffect : Prop :=
  ∀ (i : Instr) (s : State), ∃ t u, exec i s = .next t ∧ exec i.canon s = .next u ∧
    t.blockOnly = u.blockOnly ∧ t.tr = u.tr ∧ t.oracle = u.oracle ∧ t.inputs = u.inputs ∧
    t.burst = u.burst

/-- A few words, written out from the encoding tables, decode to the instructions they stand for.
Choices of the model used: log entries 11, 12. -/
def Obligations.SpecWordsDecode : Prop :=
  decodeTableWord 24 0x204500 = some (.encodeNp 0 0x45 { plen := 0, bytes := [] }) ∧
  decodeTableWord 24 0x430000 = some (.recv 3 0 { plen := 0, bytes := [] }) ∧
  decodeTableWord 24 0x540100 = some .readQuat ∧
  decodeTableWord 32 0xBB0200BD = some .readRpyFrame ∧
  decode (.desc 0x511005 [0x00, 0xCD, 0xCC, 0x4C, 0x3D]) =
    .ok (.xferB 0x10 0x00 0x3D4CCCCD, []) ∧
  decode (.wire [0xBB, 0x10, 0x05, 0x00, 0xCD, 0xCC, 0x4C, 0x3D, 0xF2]) =
    .ok (.frameB 0x10 0x00 0x3D4CCCCD 0xF2, [])

/-! ## The step -/

/-- A descriptor presented to a ready block, packed or in record form, is executed by the next step;
the completion pulse of the operation before is over. A record names the operation of its code with its
own fields, and an `n` or a payload that the operation reads and that is too large makes the block fatal.
Choices of the model used: log entries 2, 10, 11, 23, 24, 27. -/
def Obligations.StepRunsPresentedDescriptor : Prop :=
  (∀ (s : State) (h : Header) (pay left : List Byte) (rest : List Input) (i : Instr),
    s.ready = true → s.inputs = .packed h pay :: rest → decode (.desc h pay) = .ok (i, left) →
      i.wf = true ∧ step s = exec i { s with done := false, inputs := rest }) ∧
  (∀ (s : State) (d : Descriptor) (rest : List Input),
    s.ready = true → s.inputs = .record d :: rest →
      step s = exec d.toInstr { s with done := false, inputs := rest }) ∧
  (∀ d : Descriptor, ∃ (n : BitVec 4) (g : Ignored), (d.n < 16 → n.toNat = d.n) ∧
    (d.payload.length ≤ 255 → g.plen.toNat = d.payload.length) ∧
    g.bytes = d.payload.take g.plen.toNat ∧
    (d.op = 1 → d.toInstr = .encode n d.cmd d.payload) ∧
    (d.op = 2 → d.toInstr = .encodeNp n d.cmd g) ∧
    (d.op = 3 → d.toInstr = .send n d.cmd d.payload) ∧
    (d.op = 4 → d.toInstr = .recv d.n d.cmd g) ∧
    (d.op = 5 → d.toInstr = (Instr.xfer d.n d.cmd d.payload).canon) ∧
    (d.op = 6 → d.toInstr = .connect n d.cmd g) ∧
    (d.op = 7 → d.toInstr = .disconnect n d.cmd g) ∧
    (d.op = 0 ∨ 8 ≤ d.op.toNat → ∃ low, d.toInstr = .reservedOp d.op low)) ∧
  (∀ (s : State) (d : Descriptor) (rest : List Input),
    s.ready = true → s.inputs = .record d :: rest →
    (d.op ∈ [1, 3, 5] ∧ 255 < d.payload.length) ∨ (d.op ∈ [4, 5] ∧ 9 < d.n) →
      step s = .next { s with
        inputs := rest, fatal := true, ok := false, err := .programmingError, seq := .fatal,
        busy := true, done := false })

/-- On the device's turn the frame at the front of the wire is taken off it and executed.
Choices of the model used: log entries 2, 22, 24. -/
def Obligations.StepRunsWireFrame : Prop :=
  ∀ (s : State) (left : List Byte) (rest : List Input) (i : Instr),
    s.inputs = .deviceTurn :: rest → decode (.wire s.tr.wire) = .ok (i, left) →
      i.wf = true ∧
      step s = exec i { s with done := false, inputs := rest, tr := { s.tr with wire := left } }

/-- A table word placed where the step fetches it is run by the very next step after reset.
Choices of the model used: log entries 2, 11, 12. -/
def Obligations.FetchWordRunsFirst : Prop :=
  ∀ (nbits w : Nat) (i : Instr), decodeTableWord nbits w = some i →
    ∃ s : State, s.blockOnly = State.reset.blockOnly ∧
      step (State.reset.withFetchWord nbits w) = exec i s

/-! ## Codec: ENCODE and ENCODE_NP -/

/-- `ENCODE` latches its descriptor, writes the frame, its length and its checksum, and succeeds; no
session, no transport, no result register is involved. -/
def Obligations.EncodeWritesFrame : Prop :=
  ∀ (n : BitVec 4) (cmd : Byte) (p : List Byte) (s : State), p.length ≤ 255 → s.AtRest →
    exec (.encode n cmd p) s = .next { s with
      d := { op := 1, n := n, cmd := cmd, plen := BitVec.ofNat 8 p.length, pay := p },
      fb := [0xBB, cmd, BitVec.ofNat 8 p.length] ++ p ++ [frameSum cmd p],
      flen := BitVec.ofNat 9 (4 + p.length), csum := frameSum cmd p,
      ok := true, err := .noError, seq := .idle, busy := false, done := true, txIdx := 0,
      call := none }

/-- `ENCODE_NP` writes the four-byte frame of its command, whatever the ignored fields hold. -/
def Obligations.EncodeNpWritesFrame : Prop :=
  ∀ (n : BitVec 4) (cmd : Byte) (g : Ignored) (s : State), s.AtRest →
    exec (.encodeNp n cmd g) s = .next { s with
      d := { op := 2, n := n, cmd := cmd, plen := g.plen,
             pay := g.bytes.take g.plen.toNat },
      fb := [0xBB, cmd, 0x00, 0xBB + cmd], flen := 4, csum := 0xBB + cmd,
      ok := true, err := .noError, seq := .idle, busy := false, done := true, txIdx := 0,
      call := none }

/-- After `ENCODE` the host reads the frame byte by byte. -/
def Obligations.HostReadsEncodedFrame : Prop :=
  ∀ (n : BitVec 4) (cmd : Byte) (p : List Byte) (s : State), p.length ≤ 255 → s.AtRest →
    ∃ t, exec (.encode n cmd p) s = .next t ∧
      ∀ i : Fin 259, i.val < 4 + p.length → t.hostReadFB i = (frameOf cmd p)[i.val]?

/-- R93 of every frame the marshaller makes: length, start marker, checksum. -/
def Obligations.FrameLengthStartChecksum : Prop :=
  ∀ (cmd : Byte) (p : List Byte), p.length ≤ 255 →
    (frameOf cmd p).length = 4 + ((frameOf cmd p).getD 2 0).toNat ∧
    (frameOf cmd p).head? = some 0xBB ∧
    ((frameOf cmd p).getLast?.map BitVec.toNat) =
      some ((((frameOf cmd p).dropLast).map BitVec.toNat).sum % 256)

/-- The checksum does not depend on the order of the bytes, and is their sum modulo 256. -/
def Obligations.ChecksumIsOrderFreeSum : Prop :=
  (∀ s : List Byte, (sum8 s).toNat = (s.map BitVec.toNat).sum % 256) ∧
  (∀ s t : List Byte, s.Perm t → sum8 s = sum8 t)

/-! ## The deserializer -/

/-- The round-trip law of R145. -/
def Obligations.UnpackEncodeFloats : Prop :=
  ∀ v : List F32, unpack (encodeFloats v) = v

/-- Unpacking whole replies drops no bit: packing the values again gives the bytes. -/
def Obligations.EncodeFloatsUnpack : Prop :=
  ∀ s : List Byte, s.length % 4 = 0 →
    encodeFloats (unpack s) = s ∧ (unpack s).length = s.length / 4

/-! ## Engine: SEND, RECV, XFER -/

/-- `SEND` puts its frame on the wire behind everything written before, and leaves the results alone.
Choices of the model used: log entry 17. -/
def Obligations.SendTransmitsFrame : Prop :=
  ∀ (n : BitVec 4) (cmd : Byte) (p : List Byte) (s : State),
    p.length ≤ 255 → s.AtRest → s.sess = true → s.SendGoes →
    exec (.send n cmd p) s = .next (s.sentDone
      { op := 3, n := n, cmd := cmd, plen := BitVec.ofNat 8 p.length, pay := p })

/-- `RECV` of 1 to 9 values reads the first `4*n` bytes and decodes them; what follows stays unread.
Choices of the model used: log entries 14, 18. -/
def Obligations.RecvDecodesReply : Prop :=
  ∀ (n : Nat) (cmd : Byte) (g : Ignored) (s : State),
    1 ≤ n → n ≤ 9 → s.AtRest → s.sess = true → s.tr.isOpen = true →
    ReadIsFull s.lTimeout s.tr.rxq (s.oracle.ahead 0).arrive (4 * n) →
    exec (.recv n cmd g) s = .next { s with
      d := { op := 4, n := BitVec.ofNat 4 n, cmd := cmd, plen := g.plen,
             pay := g.bytes.take g.plen.toNat },
      f := loadFile zeroFile (unpack ((s.tr.rxq ++ (s.oracle.ahead 0).arrive).take (4 * n))),
      rxb := (s.tr.rxq ++ (s.oracle.ahead 0).arrive).take (4 * n),
      rxCnt := BitVec.ofNat 6 (4 * n),
      tr := { s.tr with rxq := (s.tr.rxq ++ (s.oracle.ahead 0).arrive).drop (4 * n) },
      oracle := s.oracle.after 1,
      ok := true, err := .noError, seq := .idle, busy := false, done := true, txIdx := 0,
      call := none }

/-- `RECV 0` reads nothing and succeeds at once with all results zero. -/
def Obligations.RecvZeroReadsNothing : Prop :=
  ∀ (cmd : Byte) (g : Ignored) (s : State), s.AtRest → s.sess = true →
    exec (.recv 0 cmd g) s = .next { s with
      d := { op := 4, n := 0, cmd := cmd, plen := g.plen,
             pay := g.bytes.take g.plen.toNat },
      f := zeroFile, rxb := [], rxCnt := 0,
      ok := true, err := .noError, seq := .idle, busy := false, done := true, txIdx := 0,
      call := none }

/-- A short `RECV` ends as `TIMEOUT` with zero results, whatever the resync discard returns; the input
is empty if the discard returned `Done`, and what an unspecified number of dropped bytes left if not.
Choices of the model used: log entries 14, 19. -/
def Obligations.RecvShortIsTimeout : Prop :=
  ∀ (n : Nat) (cmd : Byte) (g : Ignored) (s : State),
    1 ≤ n → n ≤ 9 → s.AtRest → s.sess = true → s.tr.isOpen = true →
    ReadIsShort s.lTimeout s.tr.rxq (s.oracle.ahead 0).arrive (4 * n) →
    (s.oracle.ahead 0).fault = false →
    exec (.recv n cmd g) s = .next { s with
      d := { op := 4, n := BitVec.ofNat 4 n, cmd := cmd, plen := g.plen,
             pay := g.bytes.take g.plen.toNat },
      f := zeroFile,
      rxb := shortBytes s.lTimeout s.tr.rxq (s.oracle.ahead 0).arrive,
      rxCnt := BitVec.ofNat 6 (shortBytes s.lTimeout s.tr.rxq (s.oracle.ahead 0).arrive).length,
      tr := { s.tr with
              rxq := afterDiscard (s.oracle.ahead 1)
                (leftUnread s.lTimeout (s.oracle.ahead 0).arrive) },
      oracle := s.oracle.after 2,
      ok := false, err := .timeout, seq := .idle, busy := false, done := true, txIdx := 0,
      call := none }

/-- A transport fault in the read ends `RECV` as `TRANSPORT_FAULT` without a resync.
Choices of the model used: log entries 14, 18, 19. -/
def Obligations.RecvFaultIsReported : Prop :=
  ∀ (n : Nat) (cmd : Byte) (g : Ignored) (s : State),
    1 ≤ n → n ≤ 9 → s.AtRest → s.sess = true →
    let faulted (q : List Byte) : State := { s with
      d := { op := 4, n := BitVec.ofNat 4 n, cmd := cmd, plen := g.plen,
             pay := g.bytes.take g.plen.toNat },
      f := zeroFile, rxb := [], rxCnt := 0,
      tr := { s.tr with rxq := q }, oracle := s.oracle.after 1,
      ok := false, err := .transportFault, seq := .idle, busy := false, done := true, txIdx := 0,
      call := none }
    (s.tr.isOpen = false → exec (.recv n cmd g) s = .next (faulted s.tr.rxq)) ∧
    (s.tr.isOpen = true → ReadIsShort s.lTimeout s.tr.rxq (s.oracle.ahead 0).arrive (4 * n) →
      (s.oracle.ahead 0).fault = true →
      exec (.recv n cmd g) s =
        .next (faulted (leftUnread s.lTimeout (s.oracle.ahead 0).arrive)))

/-- `XFER` with a reply sends its frame, reads `4*n` bytes and decodes them.
Choices of the model used: log entries 14, 17, 18. -/
def Obligations.XferReadsReply : Prop :=
  ∀ (n : Nat) (cmd : Byte) (p : List Byte) (s : State),
    p.length ≤ 255 → 1 ≤ n → n ≤ 9 → s.AtRest → s.sess = true → s.SendGoes →
    ReadIsFull s.lTimeout s.atHand s.inWindow (4 * n) →
    exec (.xfer n cmd p) s = .next (s.xferDone
      { op := 5, n := BitVec.ofNat 4 n, cmd := cmd, plen := BitVec.ofNat 8 p.length, pay := p })

/-- `XFER` with no reply succeeds when its frame is on the wire; nothing is read.
Choices of the model used: log entry 17. -/
def Obligations.XferWithoutReply : Prop :=
  ∀ (cmd : Byte) (p : List Byte) (s : State),
    p.length ≤ 255 → s.AtRest → s.sess = true → s.SendGoes →
    exec (.xfer 0 cmd p) s = .next { s.sentDone
      { op := 5, n := 0, cmd := cmd, plen := BitVec.ofNat 8 p.length, pay := p } with
      f := zeroFile, rxb := [], rxCnt := 0 }

/-- `XFER` whose reply comes short ends as `TIMEOUT`, results zero, and the input discarded, so far as the
resync discard did not fault; its fault is ignored.
Choices of the model used: log entries 14, 17, 19. -/
def Obligations.XferShortIsTimeout : Prop :=
  ∀ (n : Nat) (cmd : Byte) (p : List Byte) (s : State),
    p.length ≤ 255 → 1 ≤ n → n ≤ 9 → s.AtRest → s.sess = true → s.SendGoes →
    ReadIsShort s.lTimeout s.atHand s.inWindow (4 * n) →
    (s.oracle.ahead s.sendAnswers).fault = false →
    exec (.xfer n cmd p) s = .next (s.xferTimedOut
      { op := 5, n := BitVec.ofNat 4 n, cmd := cmd, plen := BitVec.ofNat 8 p.length, pay := p })

/-- The pseudo-forms of `XFER` complete as the `XFER`s they expand to: `XFER.A` with its empty payload
and any arity, `XFER.B` with position byte and float and one value back, `XFER.C` with three floats and
none.
Choices of the model used: log entries 14, 17, 18. -/
def Obligations.XferPseudoFormsComplete : Prop :=
  (∀ (n : Nat) (cmd : Byte) (s : State), 1 ≤ n → n ≤ 9 → s.AtRest → s.sess = true → s.SendGoes →
    ReadIsFull s.lTimeout s.atHand s.inWindow (4 * n) →
    exec (.xferA n cmd) s = .next (s.xferDone
      { op := 5, n := BitVec.ofNat 4 n, cmd := cmd, plen := 0, pay := [] })) ∧
  (∀ (cmd : Byte) (s : State), s.AtRest → s.sess = true → s.SendGoes →
    exec (.xferA 0 cmd) s = .next { s.sentDone
      { op := 5, n := 0, cmd := cmd, plen := 0, pay := [] } with
      f := zeroFile, rxb := [], rxCnt := 0 }) ∧
  (∀ (cmd pos : Byte) (val : F32) (s : State), s.AtRest → s.sess = true → s.SendGoes →
    ReadIsFull s.lTimeout s.atHand s.inWindow 4 →
    exec (.xferB cmd pos val) s = .next (s.xferDone
      { op := 5, n := 1, cmd := cmd, plen := 5, pay := pos :: bytesLE val })) ∧
  (∀ (cmd : Byte) (a b c : F32) (s : State), s.AtRest → s.sess = true → s.SendGoes →
    exec (.xferC cmd a b c) s = .next { s.sentDone
      { op := 5, n := 0, cmd := cmd, plen := 12, pay := bytesLE a ++ bytesLE b ++ bytesLE c } with
      f := zeroFile, rxb := [], rxCnt := 0 })

/-- A fault at pre-clear, write or drain ends `SEND` as `TRANSPORT_FAULT` at that primitive: the frame is
made, results are zero, the session stays, and no later primitive is called. On a transport that the
environment has closed the first primitive faults. What is written is on the wire or still in `txq`.
Choices of the model used: log entries 17, 19. -/
def Obligations.SendStopsAtTheFault : Prop :=
  ∀ (n : BitVec 4) (cmd : Byte) (p : List Byte) (s : State),
    p.length ≤ 255 → s.AtRest → s.sess = true →
    let l : Latch := { op := 3, n := n, cmd := cmd, plen := BitVec.ofNat 8 p.length, pay := p }
    (s.tr.isOpen = false →
      ∃ t, exec (.send n cmd p) s = .next t ∧ t.blockOnly = (s.sendFaulted l 0).blockOnly ∧
        t.oracle = s.oracle.after 1 ∧ ∃ q, t.tr = { s.tr with rxq := q }) ∧
    (s.tr.isOpen = true → s.cfg.preclear = true → (s.oracle.ahead 0).fault = true →
      ∃ t, exec (.send n cmd p) s = .next t ∧ t.blockOnly = (s.sendFaulted l 0).blockOnly ∧
        t.oracle = s.oracle.after 1 ∧ t.tr.isOpen = true ∧
        t.tr.wire ++ t.tr.txq = s.tr.wire ++ s.tr.txq) ∧
    (s.tr.isOpen = true → (s.cfg.preclear = true → (s.oracle.ahead 0).fault = false) →
      (s.oracle.ahead s.beforeWrite).fault = true →
      ∃ t k, exec (.send n cmd p) s = .next t ∧ t.blockOnly = (s.sendFaulted l k).blockOnly ∧
        t.oracle = s.oracle.after (s.beforeWrite + 1) ∧ t.tr.isOpen = true ∧
        k ≤ (frameOf cmd p).length ∧
        t.tr.wire ++ t.tr.txq = s.tr.wire ++ s.tr.txq ++ (frameOf cmd p).take k) ∧
    (s.tr.isOpen = true → (s.cfg.preclear = true → (s.oracle.ahead 0).fault = false) →
      (s.oracle.ahead s.beforeWrite).fault = false →
      (s.oracle.ahead (s.beforeWrite + 1)).fault = true →
      ∃ t, exec (.send n cmd p) s = .next t ∧
        t.blockOnly = (s.sendFaulted l (frameOf cmd p).length).blockOnly ∧
        t.oracle = s.oracle.after (s.beforeWrite + 2) ∧ t.tr.isOpen = true ∧
        t.tr.wire ++ t.tr.txq = s.tr.wire ++ s.tr.txq ++ frameOf cmd p)

/-- A fault at pre-clear, write, drain or read ends `XFER` as `TRANSPORT_FAULT` at that primitive: the
frame is made, results are zero, the session stays, and no later primitive is called. At pre-clear
nothing is written; at write some first part of the frame is; at drain and read all of it is. What is
written is on the wire or still in `txq`. On a transport that the environment has closed the first
primitive faults.
Choices of the model used: log entries 14, 17, 19. -/
def Obligations.XferStopsAtTheFault : Prop :=
  ∀ (n : Nat) (cmd : Byte) (p : List Byte) (s : State),
    p.length ≤ 255 → n ≤ 9 → s.AtRest → s.sess = true →
    let l : Latch := { op := 5, n := BitVec.ofNat 4 n, cmd := cmd, plen := BitVec.ofNat 8 p.length,
                       pay := p }
    (s.tr.isOpen = false →
      ∃ t, exec (.xfer n cmd p) s = .next t ∧ t.blockOnly = (s.xferFaulted l 0).blockOnly ∧
        t.oracle = s.oracle.after 1 ∧ ∃ q, t.tr = { s.tr with rxq := q }) ∧
    (s.tr.isOpen = true → s.cfg.preclear = true → (s.oracle.ahead 0).fault = true →
      ∃ t, exec (.xfer n cmd p) s = .next t ∧ t.blockOnly = (s.xferFaulted l 0).blockOnly ∧
        t.oracle = s.oracle.after 1 ∧ t.tr.isOpen = true ∧
        t.tr.wire ++ t.tr.txq = s.tr.wire ++ s.tr.txq) ∧
    (s.tr.isOpen = true → (s.cfg.preclear = true → (s.oracle.ahead 0).fault = false) →
      (s.oracle.ahead s.beforeWrite).fault = true →
      ∃ t k, exec (.xfer n cmd p) s = .next t ∧ t.blockOnly = (s.xferFaulted l k).blockOnly ∧
        t.oracle = s.oracle.after (s.beforeWrite + 1) ∧ t.tr.isOpen = true ∧
        k ≤ (frameOf cmd p).length ∧
        t.tr.wire ++ t.tr.txq = s.tr.wire ++ s.tr.txq ++ (frameOf cmd p).take k) ∧
    (s.tr.isOpen = true → (s.cfg.preclear = true → (s.oracle.ahead 0).fault = false) →
      (s.oracle.ahead s.beforeWrite).fault = false →
      (s.oracle.ahead (s.beforeWrite + 1)).fault = true →
      ∃ t, exec (.xfer n cmd p) s = .next t ∧
        t.blockOnly = (s.xferFaulted l (frameOf cmd p).length).blockOnly ∧
        t.oracle = s.oracle.after (s.beforeWrite + 2) ∧ t.tr.isOpen = true ∧
        t.tr.wire ++ t.tr.txq = s.tr.wire ++ s.tr.txq ++ frameOf cmd p) ∧
    (1 ≤ n → s.SendGoes → ReadIsShort s.lTimeout s.atHand s.inWindow (4 * n) →
      (s.oracle.ahead s.sendAnswers).fault = true →
      ∃ t, exec (.xfer n cmd p) s = .next t ∧
        t.blockOnly = (s.xferFaulted l (frameOf cmd p).length).blockOnly ∧
        t.oracle = s.oracle.after (s.sendAnswers + 1) ∧ t.tr.isOpen = true ∧
        t.tr.wire = s.tr.wire ++ s.tr.txq ++ frameOf cmd p ∧ t.tr.txq = [])

/-- With pre-clear on, what `rxq` held when a `SEND` or `XFER` was accepted makes no difference to it,
provided the pre-clear returns `Done`.
Choices of the model used: log entry 17. -/
def Obligations.StaleBytesNeverRead : Prop :=
  ∀ (n : Nat) (m : BitVec 4) (cmd : Byte) (p q : List Byte) (s : State),
    p.length ≤ 255 → n ≤ 9 → s.AtRest → s.sess = true → s.cfg.preclear = true →
    s.tr.isOpen = true → (s.oracle.ahead 0).fault = false →
    exec (.xfer n cmd p) { s with tr := { s.tr with rxq := q } } = exec (.xfer n cmd p) s ∧
    exec (.send m cmd p) { s with tr := { s.tr with rxq := q } } = exec (.send m cmd p) s

/-- With no session `SEND`, `RECV` and `XFER` fail as `TRANSPORT_UNAVAILABLE`: nothing is marshalled
and no transport primitive is called. -/
def Obligations.NoSessionIsUnavailable : Prop :=
  ∀ (s : State), s.AtRest → s.sess = false →
    (∀ (n : BitVec 4) (cmd : Byte) (p : List Byte), p.length ≤ 255 →
      exec (.send n cmd p) s = .next { s with
        d := { op := 3, n := n, cmd := cmd, plen := BitVec.ofNat 8 p.length, pay := p },
        f := zeroFile, ok := false, err := .transportUnavailable, seq := .idle, busy := false,
        done := true, txIdx := 0, call := none }) ∧
    (∀ (n : Nat) (cmd : Byte) (g : Ignored), n ≤ 9 →
      exec (.recv n cmd g) s = .next { s with
        d := { op := 4, n := BitVec.ofNat 4 n, cmd := cmd, plen := g.plen,
               pay := g.bytes.take g.plen.toNat },
        f := zeroFile, rxb := [], rxCnt := 0, ok := false, err := .transportUnavailable,
        seq := .idle, busy := false, done := true, txIdx := 0, call := none }) ∧
    (∀ (n : Nat) (cmd : Byte) (p : List Byte), p.length ≤ 255 → n ≤ 9 →
      exec (.xfer n cmd p) s = .next { s with
        d := { op := 5, n := BitVec.ofNat 4 n, cmd := cmd, plen := BitVec.ofNat 8 p.length, pay := p },
        f := zeroFile, rxb := [], rxCnt := 0, ok := false, err := .transportUnavailable,
        seq := .idle, busy := false, done := true, txIdx := 0, call := none })

/-! ## Errors and acceptance -/

/-- A payload over 255 bytes (`ENCODE`, `SEND`, `XFER`) or an arity over 9 (`RECV`, `XFER`, `XFER.A`)
enters `S_FATAL` and does nothing else, session or not.
Choices of the model used: log entry 23. -/
def Obligations.IllFormedDescriptorIsFatal : Prop :=
  ∀ (s : State), s.ready = true →
    (∀ (n : BitVec 4) (cmd : Byte) (p : List Byte), 255 < p.length →
      exec (.encode n cmd p) s = .next s.enterFatal ∧
      exec (.send n cmd p) s = .next s.enterFatal) ∧
    (∀ (n : Nat) (cmd : Byte) (p : List Byte), 255 < p.length ∨ 9 < n →
      exec (.xfer n cmd p) s = .next s.enterFatal) ∧
    (∀ (n : Nat) (cmd : Byte) (g : Ignored), 9 < n →
      exec (.recv n cmd g) s = .next s.enterFatal ∧
      exec (.xferA n cmd) s = .next s.enterFatal) ∧
    s.enterFatal = { s with fatal := true, ok := false, err := .programmingError, seq := .fatal,
                            busy := true, done := false }

/-- A descriptor presented while `busy` or `fatal` is not accepted, and nothing changes. -/
def Obligations.NotAcceptedWhileBusyOrFatal : Prop :=
  ∀ (i : Instr) (s : State), i.isDescriptor = true → (s.busy = true ∨ s.fatal = true) →
    exec i s = .next s

/-- The step holds a descriptor, in packed or record form, and a typed call while the block is busy: the
operation in progress goes on exactly as it would with nothing presented, and what is presented stays
so.
Choices of the model used: log entries 2, 24. -/
def Obligations.BusyStepHoldsDescriptor : Prop :=
  ∀ (s : State) (i : Input) (rest : List Input), s.busy = true → s.inputs = i :: rest →
    ((∃ h pay, i = .packed h pay) ∨ (∃ d, i = .record d) ∨ (∃ c, i = .call c)) →
      ∃ t, step s = .next t ∧ t.inputs = s.inputs ∧
        step { s with inputs := [] } = .next { t with inputs := [] }

/-- A reserved operation code is refused: `exec` changes nothing, and the step only takes the input and
ends the pulse.
Choices of the model used: log entry 24. -/
def Obligations.ReservedOpIsRefused : Prop :=
  (∀ (op : BitVec 4) (rest : BitVec 20) (s : State), exec (.reservedOp op rest) s = .next s) ∧
  (∀ (s : State) (h : Header) (pay : List Byte) (rest : List Input),
    s.ready = true → s.inputs = .packed h pay :: rest →
    (h.toNat / 2 ^ 20 = 0 ∨ 8 ≤ h.toNat / 2 ^ 20) →
      step s = .next { s with done := false, inputs := rest })

/-- `S_FATAL` is absorbing: a step whose input is not `reset` leaves the block as it is, but for the
pulse.
Choices of the model used: log entries 2, 24. -/
def Obligations.FatalIsAbsorbing : Prop :=
  ∀ (s t : State), Inv s → s.fatal = true → s.inputs.head? ≠ some .reset → step s = .next t →
    t.blockOnly = { s.blockOnly with done := false }

/-- Which operation can end how: `ENCODE`, `ENCODE_NP` and `DISCONNECT` succeed; only reads time out;
only `CONNECT` fails to connect; only ill-formed descriptors are fatal.
Choices of the model used: log entry 7. -/
def Obligations.OperationOutcomes : Prop :=
  ∀ (s t : State), s.AtRest →
    (∀ n cmd p, exec (.encode n cmd p) s = .next t →
      (p.length ≤ 255 ∧ t.ok = true ∧ t.fatal = false) ∨ (255 < p.length ∧ t.fatal = true)) ∧
    (∀ n cmd g, exec (.encodeNp n cmd g) s = .next t → t.ok = true ∧ t.fatal = false) ∧
    (∀ n cmd p, exec (.send n cmd p) s = .next t →
      t.err ≠ .timeout ∧ t.err ≠ .connectFailed ∧ (t.fatal = true ↔ 255 < p.length)) ∧
    (∀ n cmd g, exec (.recv n cmd g) s = .next t →
      t.err ≠ .connectFailed ∧ (t.fatal = true ↔ 9 < n) ∧
      (n = 0 → t.err ≠ .timeout ∧ t.err ≠ .transportFault)) ∧
    (∀ n cmd p, exec (.xfer n cmd p) s = .next t →
      t.err ≠ .connectFailed ∧ (t.fatal = true ↔ 255 < p.length ∨ 9 < n) ∧
      (n = 0 → t.err ≠ .timeout)) ∧
    (∀ n cmd g, exec (.connect n cmd g) s = .next t →
      t.fatal = false ∧ t.err ≠ .timeout ∧ t.err ≠ .transportUnavailable) ∧
    (∀ n cmd g, exec (.disconnect n cmd g) s = .next t → t.ok = true ∧ t.fatal = false)

/-! ## Session: CONNECT and DISCONNECT -/

/-- `CONNECT` without probe: a successful `Open` makes the session.
Choices of the model used: log entries 17, 19, 28. -/
def Obligations.ConnectWithoutProbe : Prop :=
  ∀ (n : BitVec 4) (cmd : Byte) (g : Ignored) (s : State), s.AtRest → s.sess = false →
    s.cfg.probeEn = false → (s.oracle.ahead 0).fault = false →
    exec (.connect n cmd g) s = .next { s.opened with
      d := { op := 6, n := n, cmd := cmd, plen := g.plen,
             pay := g.bytes.take g.plen.toNat },
      f := zeroFile, rxb := [], rxCnt := 0, attempt := 0, sess := true,
      ok := true, err := .noError, seq := .idle, busy := false, done := true, txIdx := 0,
      call := none }

/-- `CONNECT` whose `Open` faults fails as `TRANSPORT_FAULT`: no session, no probe, transport as it
was but for the arguments it was called with.
Choices of the model used: log entries 19, 28. -/
def Obligations.ConnectOpenFaults : Prop :=
  ∀ (n : BitVec 4) (cmd : Byte) (g : Ignored) (s : State), s.AtRest → s.sess = false →
    (s.oracle.ahead 0).fault = true →
    exec (.connect n cmd g) s = .next { s with
      d := { op := 6, n := n, cmd := cmd, plen := g.plen,
             pay := g.bytes.take g.plen.toNat },
      f := zeroFile, rxb := [], rxCnt := 0, attempt := 0,
      lTimeout := s.cfg.timeout, oracle := s.oracle.after 1,
      tr := { s.tr with openCall := some s.cfg.openCall },
      ok := false, err := .transportFault, seq := .idle, busy := false, done := true, txIdx := 0,
      call := none }

/-- `CONNECT` whose first probe is answered: one exchange with `CFG_PROBE_CMD`, no payload and
`CFG_PROBE_N` values, after which the session exists; with `CFG_PROBE_N = 0` it exists when the probe's
frame is on the wire.
Choices of the model used: log entries 14, 17, 18, 19, 28. -/
def Obligations.ConnectFirstProbeAnswered : Prop :=
  ∀ (n : BitVec 4) (cmd : Byte) (g : Ignored) (s : State), s.AtRest → s.sess = false →
    s.cfg.probeEn = true → (s.oracle.ahead 0).fault = false → s.opened.SendGoes →
    let l : Latch := { op := 6, n := s.cfg.probeN, cmd := s.cfg.probeCmd, plen := 0, pay := [] }
    (1 ≤ s.cfg.probeN.toNat → s.cfg.probeN.toNat ≤ 9 →
      ReadIsFull s.cfg.timeout s.opened.atHand s.opened.inWindow (4 * s.cfg.probeN.toNat) →
      exec (.connect n cmd g) s = .next { s.opened.xferDone l with attempt := 1, sess := true }) ∧
    (s.cfg.probeN = 0 →
      exec (.connect n cmd g) s = .next { s.opened.sentDone l with
        f := zeroFile, rxb := [], rxCnt := 0, attempt := 1, sess := true })

/-- `CONNECT` whose device is silent for the first `j` probes and answers the next one: `j + 1` frames go
on the wire, `attempt` is `j + 1`, the results are the last probe's, and the session exists.
Choices of the model used: log entries 14, 17, 18, 19, 28. -/
def Obligations.ConnectLaterProbeAnswered : Prop :=
  ∀ (n : BitVec 4) (cmd : Byte) (g : Ignored) (j : Nat) (s : State), s.AtRest → s.sess = false →
    s.cfg.probeEn = true → 1 ≤ s.cfg.probeN.toNat → s.cfg.probeN.toNat ≤ 9 →
    1 ≤ j → j < s.probeBound →
    (∀ k < 1 + j * (s.beforeWrite + 4),
      (s.oracle.ahead k).fault = false ∧ (s.oracle.ahead k).arrive = []) →
    (s.afterSilentProbes j).SendGoes →
    ReadIsFull s.cfg.timeout (s.afterSilentProbes j).atHand (s.afterSilentProbes j).inWindow
      (4 * s.cfg.probeN.toNat) →
    exec (.connect n cmd g) s = .next { (s.afterSilentProbes j).xferDone
      { op := 6, n := s.cfg.probeN, cmd := s.cfg.probeCmd, plen := 0, pay := [] } with
      attempt := BitVec.ofNat 4 (j + 1), sess := true }

/-- `CONNECT` to a device that never answers: `max(1, CFG_PROBE_ATTEMPTS)` probe frames go on the wire,
the transport is closed, and the operation fails as `CONNECT_FAILED`.
Choices of the model used: log entries 17, 19, 28. -/
def Obligations.ConnectExhaustsProbes : Prop :=
  ∀ (n : BitVec 4) (cmd : Byte) (g : Ignored) (s : State), s.AtRest → s.sess = false →
    s.cfg.probeEn = true → 1 ≤ s.cfg.probeN.toNat → s.cfg.probeN.toNat ≤ 9 →
    (∀ k < 2 + s.probeBound * (s.beforeWrite + 4),
      (s.oracle.ahead k).fault = false ∧ (s.oracle.ahead k).arrive = []) →
    exec (.connect n cmd g) s = .next { s with
      d := { op := 6, n := s.cfg.probeN, cmd := s.cfg.probeCmd, plen := 0, pay := [] },
      fb := frameOf s.cfg.probeCmd [], flen := 4, csum := frameSum s.cfg.probeCmd [], txIdx := 4,
      f := zeroFile, rxb := [], rxCnt := 0, lTimeout := s.cfg.timeout,
      attempt := BitVec.ofNat 4 s.probeBound,
      tr := { s.opened.tr with
              isOpen := false, txq := [], rxq := [],
              wire := s.tr.wire ++ (s.oracle.ahead 0).leftover ++
                (List.replicate s.probeBound (frameOf s.cfg.probeCmd [])).flatten },
      oracle := s.oracle.after (2 + s.probeBound * (s.beforeWrite + 4)),
      ok := false, err := .connectFailed, seq := .idle, busy := false, done := true,
      call := none }

/-- How `CONNECT` ends, whatever the environment does: with a session and success, or without one, by a
fault of `Open` or by exhaustion of its bounded attempts with the transport closed.
Choices of the model used: log entries 7, 19. -/
def Obligations.ConnectOutcome : Prop :=
  ∀ (n : BitVec 4) (cmd : Byte) (g : Ignored) (s : State), s.AtRest →
    ∃ t, exec (.connect n cmd g) s = .next t ∧ t.busy = false ∧ t.done = true ∧
      t.fatal = false ∧ t.cfg = s.cfg ∧
      ((t.ok = true ∧ t.err = .noError ∧ t.sess = true ∧ t.attempt.toNat ≤ s.probeBound) ∨
       (t.ok = false ∧ t.sess = false ∧ t.f = zeroFile ∧ t.err = .transportFault ∧
          t.attempt = 0) ∨
       (t.ok = false ∧ t.sess = false ∧ t.f = zeroFile ∧ t.err = .connectFailed ∧
          t.attempt.toNat = s.probeBound ∧ t.tr.isOpen = false))

/-- `CONNECT` while a session is open closes it first and then goes on as from no session.
Choices of the model used: log entries 17, 19. -/
def Obligations.ConnectClosesOldSession : Prop :=
  ∀ (n : BitVec 4) (cmd : Byte) (g : Ignored) (s : State), s.AtRest → s.sess = true →
    exec (.connect n cmd g) s =
      exec (.connect n cmd g) { s with
        sess := false, oracle := s.oracle.after 1,
        tr := { s.tr with
                isOpen := false, txq := [], rxq := [],
                wire := s.tr.wire ++ s.tr.txq.take (s.oracle.ahead 0).sent } }

/-- `DISCONNECT` closes an open session, whatever `Close` returns, and succeeds; with no session it does
nothing and succeeds.
Choices of the model used: log entries 17, 19. -/
def Obligations.DisconnectEndsSession : Prop :=
  ∀ (n : BitVec 4) (cmd : Byte) (g : Ignored) (s : State), s.AtRest →
    (s.sess = true → exec (.disconnect n cmd g) s = .next { s with
      d := { op := 7, n := n, cmd := cmd, plen := g.plen,
             pay := g.bytes.take g.plen.toNat },
      sess := false,
      tr := { s.tr with
              isOpen := false, txq := [], rxq := [],
              wire := s.tr.wire ++ s.tr.txq.take (s.oracle.ahead 0).sent },
      oracle := s.oracle.after 1,
      ok := true, err := .noError, seq := .idle, busy := false, done := true, txIdx := 0,
      call := none }) ∧
    (s.sess = false → exec (.disconnect n cmd g) s = .next { s with
      d := { op := 7, n := n, cmd := cmd, plen := g.plen,
             pay := g.bytes.take g.plen.toNat },
      ok := true, err := .noError, seq := .idle, busy := false, done := true, txIdx := 0,
      call := none })

/-- Only a `CONNECT` makes a session, and only by succeeding.
Choices of the model used: log entry 2. -/
def Obligations.OnlyConnectMakesSession : Prop :=
  ∀ (s t : State), Inv s → step s = .next t → s.sess = false → t.sess = true →
    t.d.op = 6 ∧ t.ok = true ∧ t.err = .noError ∧ t.busy = false

/-! ## Typed operations: readQuat and readRPY -/

/-- `readQuat` and `readRPY` make the exchange of their row and return the rounded values.
Choices of the model used: log entries 14, 17, 18, 20, 21. -/
def Obligations.TypedReadsReturnValues : Prop :=
  ∀ (s : State), s.AtRest → s.sess = true → s.SendGoes →
    (ReadIsFull s.lTimeout s.atHand s.inWindow 16 →
      exec .readQuat s = .next { s.xferDone
        { op := 5, n := 4, cmd := 0x01, plen := 0, pay := [] } with
        ret := some { ok := true, values :=
            (unpack (s.replyBytes 4)).map fun w => deliver Config.resultFmt (round6 w) } }) ∧
    (ReadIsFull s.lTimeout s.atHand s.inWindow 12 →
      exec .readRPY s = .next { s.xferDone
        { op := 5, n := 3, cmd := 0x02, plen := 0, pay := [] } with
        ret := some { ok := true, values :=
            (unpack (s.replyBytes 3)).map fun w => deliver Config.resultFmt (round6 w) } })

/-- A typed read whose reply comes short returns failure and zeros.
Choices of the model used: log entries 14, 17, 18, 19, 20, 21. -/
def Obligations.TypedReadsFailWithZeros : Prop :=
  ∀ (s : State), s.AtRest → s.sess = true → s.SendGoes →
    (s.oracle.ahead s.sendAnswers).fault = false →
    (ReadIsShort s.lTimeout s.atHand s.inWindow 16 →
      exec .readQuat s = .next { s.xferTimedOut
        { op := 5, n := 4, cmd := 0x01, plen := 0, pay := [] } with
        ret := some { ok := false, values :=
            List.replicate 4 (deliver Config.resultFmt (.decimal 0 6)) } }) ∧
    (ReadIsShort s.lTimeout s.atHand s.inWindow 12 →
      exec .readRPY s = .next { s.xferTimedOut
        { op := 5, n := 3, cmd := 0x02, plen := 0, pay := [] } with
        ret := some { ok := false, values :=
            List.replicate 3 (deliver Config.resultFmt (.decimal 0 6)) } })

/-- A typed call of the host is exactly one `XFER` of its row: the block and its environment end as that
`XFER` leaves them, the call returns the success flag and the row's transform of `F[0..n-1]`, and for
`readQuat` and `readRPY` the call is the instruction of that name. The rows are those of the typed
operation table, with the shapes, arities and transforms that it gives, and every row has the id, the
shape and the arity of an entry of the registry.
Choices of the model used: log entries 2, 6, 15, 16, 20, 21. -/
def Obligations.TypedCallIsOneExchange : Prop :=
  (∀ (s : State) (op : TypedOp) (rest : List Input), s.ready = true → s.inputs = .call op :: rest →
    let s' : State := { s with done := false, inputs := rest }
    (∃ t u, step s = .next t ∧ exec (.xfer op.row.arity op.row.cmd op.row.payload) s' = .next u ∧
      t.blockOnly = u.blockOnly ∧ t.tr = u.tr ∧ t.oracle = u.oracle ∧
      (s.burst = none → t.call = none ∧ t.ret = some
        { ok := t.ok,
          values := (t.f.toList.take op.row.arity).map (applyTransform op.row.transform) })) ∧
    (op = .readQuat → step s = exec .readQuat s') ∧
    (op = .readRPY → step s = exec .readRPY s')) ∧
  (∀ (fmt : ResultFmt) (w : F32),
    transformIn fmt .round6 w = deliver fmt (round6 w) ∧
    transformIn fmt .round3 w = deliver fmt (round3 w) ∧
    transformIn fmt .trunc w =
      truncWithin (-(Config.hostIntRange.1 : Int)) Config.hostIntRange.2 w ∧
    transformIn fmt .ack w = .bool (ackOf w)) ∧
  (∀ v a b c : F32, ∀ k : Nat,
    TypedOp.readQuat.row = ⟨0x01, [], 4, .round6⟩ ∧ TypedOp.readRPY.row = ⟨0x02, [], 3, .round6⟩ ∧
    TypedOp.readAccel.row = ⟨Config.cmdOf .readAccel, [], 3, .round6⟩ ∧
    TypedOp.readGyro.row = ⟨Config.cmdOf .readGyro, [], 3, .round6⟩ ∧
    TypedOp.readMag.row = ⟨Config.cmdOf .readMag, [], 3, .round6⟩ ∧
    TypedOp.readAccelGyro.row = ⟨Config.cmdOf .readAccelGyro, [], 6, .round6⟩ ∧
    TypedOp.readImuData.row = ⟨Config.cmdOf .readImuData, [], 9, .round6⟩ ∧
    (TypedOp.getFilterGain v).row =
      ⟨Config.cmdOf .getFilterGain, Config.pos .filterGain :: bytesLE v, 1, .round3⟩ ∧
    (TypedOp.getCutoff v).row =
      ⟨Config.cmdOf .getCutoff, Config.pos .cutoff :: bytesLE v, 1, .round3⟩ ∧
    (TypedOp.setFilterGain v).row =
      ⟨Config.cmdOf .setFilterGain, Config.pos .filterGain :: bytesLE v, 1, .ack⟩ ∧
    (TypedOp.setI2CAddress v).row =
      ⟨Config.cmdOf .setI2CAddress, Config.pos .i2cAddress :: bytesLE v, 1, .ack⟩ ∧
    (TypedOp.setWorldFrameId v).row =
      ⟨Config.cmdOf .setWorldFrameId, Config.pos .worldFrameId :: bytesLE v, 1, .ack⟩ ∧
    TypedOp.getWorldFrameId.row = ⟨Config.probeCmd, [], 1, .trunc⟩ ∧
    ((TypedOp.getI2CAddress v).row.arity = 1 ∧ (TypedOp.getI2CAddress v).row.transform = .trunc) ∧
    ((TypedOp.resetParams v).row.arity = 1 ∧ (TypedOp.resetParams v).row.transform = .ack) ∧
    ((TypedOp.clearBuffer v).row.arity = 1 ∧ (TypedOp.clearBuffer v).row.transform = .ack) ∧
    (TypedOp.writeOffset a b c).row =
      ⟨Config.cmdOf .writeOffset, bytesLE a ++ bytesLE b ++ bytesLE c, 0, .plain⟩ ∧
    ((TypedOp.writeVector k a b c).row.payload = bytesLE a ++ bytesLE b ++ bytesLE c ∧
      (TypedOp.writeVector k a b c).row.arity = 0)) ∧
  (∀ op : TypedOp, ∃ e : RegEntry, registry op.row.cmd = some e ∧ op.row.arity = e.arity ∧
    op.row.payload.length = e.shape.payloadSize) ∧
  Shape.a.payloadSize = 0 ∧ Shape.b.payloadSize = 5 ∧ Shape.c.payloadSize = 12

/-- The value of a pattern is that of IEEE 754 binary32 (R147). The rounding of `round6`, `round3`
and `ack` is to nearest, a tie to the even number; `round6` and `round3` apply it to the value times
`10^6` and `10^3`, and leave a NaN or an infinity alone. In the default result format a rounded number is
delivered as a binary64 pattern than which none is nearer to it, an infinity as the infinity of its sign
and a NaN as a NaN.
Choices of the model used: log entry 21. -/
def Obligations.RoundHalfEvenIsNearest : Prop :=
  (∀ (num den : Nat), 0 < den →
    2 * (roundHalfEven num den * den) ≤ 2 * num + den ∧
    2 * num ≤ 2 * (roundHalfEven num den * den) + den ∧
    (2 * (roundHalfEven num den * den) = 2 * num + den ∨
      2 * num = 2 * (roundHalfEven num den * den) + den → roundHalfEven num den % 2 = 0)) ∧
  (∀ (w : F32) (x : FiniteF32), f32Value w = some x →
    round6 w = .decimal (signed x.neg (roundHalfEven (x.mant * 10 ^ 6 * 2 ^ x.up) (2 ^ x.down))) 6 ∧
    round3 w = .decimal (signed x.neg (roundHalfEven (x.mant * 10 ^ 3 * 2 ^ x.up) (2 ^ x.down))) 3) ∧
  (∀ w : F32, f32Value w = none → round6 w = .pattern w ∧ round3 w = .pattern w) ∧
  (∀ w : F32, f32Value w = none ↔ w.toNat / 2 ^ 23 % 256 = 255) ∧
  (∀ (w : F32) (x : FiniteF32), f32Value w = some x →
    x.neg = decide (2 ^ 31 ≤ w.toNat) ∧
    (w.toNat / 2 ^ 23 % 256 = 0 →
      x.mant * 2 ^ x.up * 2 ^ 149 = w.toNat % 2 ^ 23 * 2 ^ x.down) ∧
    (w.toNat / 2 ^ 23 % 256 ≠ 0 →
      x.mant * 2 ^ x.up * 2 ^ 150 =
        (2 ^ 23 + w.toNat % 2 ^ 23) * 2 ^ (w.toNat / 2 ^ 23 % 256) * 2 ^ x.down)) ∧
  (∀ (q : Int) (places : Nat), places ≤ 6 → q.natAbs < 2 ^ 150 →
    ∃ bits v, deliver .binary64 (.decimal q places) = .binary64 bits ∧
      binary64Scaled bits = some v ∧
      ∀ bits' v', binary64Scaled bits' = some v' →
        |v * 10 ^ places - q * 2 ^ 1074| ≤ |v' * 10 ^ places - q * 2 ^ 1074|) ∧
  (∀ w : F32, f32Value w = none →
    ∃ bits, deliver .binary64 (.pattern w) = .binary64 bits ∧
      bits.toNat / 2 ^ 52 % 2 ^ 11 = 2047 ∧
      (w.toNat % 2 ^ 23 = 0 → bits.toNat % 2 ^ 52 = 0 ∧ bits.msb = w.msb) ∧
      (w.toNat % 2 ^ 23 ≠ 0 → bits.toNat % 2 ^ 52 ≠ 0))

/-- `trunc` drops the fraction, toward zero, and has no value for a NaN, an infinity, or a number that is
itself outside the range of the host's integers. -/
def Obligations.TruncDropsTheFraction : Prop :=
  ∀ (lo hi : Int) (w : F32),
    (f32Value w = none → truncWithin lo hi w = .noValue) ∧
    (∀ (x : FiniteF32) (m : Nat), f32Value w = some x →
      m * 2 ^ x.down ≤ x.mant * 2 ^ x.up → x.mant * 2 ^ x.up < (m + 1) * 2 ^ x.down →
      truncWithin lo hi w =
        if lo * 2 ^ x.down ≤ signed x.neg (x.mant * 2 ^ x.up) ∧
            signed x.neg (x.mant * 2 ^ x.up) ≤ hi * 2 ^ x.down then .int (signed x.neg m)
        else .noValue)

/-- `ack` is true iff `0.5 < x < 1.5`, and false for NaN and the infinities. -/
def Obligations.AckIsAboveHalfBelowThreeHalves : Prop :=
  (∀ w : F32, f32Value w = none → ackOf w = false) ∧
  (∀ (w : F32) (x : FiniteF32), f32Value w = some x →
    (ackOf w = true ↔
      x.neg = false ∧ 2 ^ x.down < 2 * (x.mant * 2 ^ x.up) ∧
        2 * (x.mant * 2 ^ x.up) < 3 * 2 ^ x.down))

/-! ## The wire -/

/-- A request frame on the wire is taken by the device, right checksum or wrong: the block keeps its
state, the frame joins those the device has taken, and what the device answers arrives in `rxq` while
the transport is open.
Choices of the model used: log entry 22. -/
def Obligations.DeviceTakesFrames : Prop :=
  ∀ (s : State) (cmd pos chk : Byte) (val a b c : F32) (p : List Byte),
    let after (frame : List Byte) : State := { s with
      oracle := s.oracle.after 1,
      tr := { s.tr with
        taken := s.tr.taken ++ [frame],
        rxq := if s.tr.isOpen then s.tr.rxq ++ (s.oracle.ahead 0).arrive else s.tr.rxq } }
    exec (.frameA cmd chk) s = .next (after [0xBB, cmd, 0x00, chk]) ∧
    exec (.frameB cmd pos val chk) s =
      .next (after ([0xBB, cmd, 0x05, pos] ++ bytesLE val ++ [chk])) ∧
    exec (.frameC cmd a b c chk) s =
      .next (after ([0xBB, cmd, 0x0C] ++ bytesLE a ++ bytesLE b ++ bytesLE c ++ [chk])) ∧
    exec (.frame cmd p chk) s =
      .next (after ([0xBB, cmd, BitVec.ofNat 8 p.length] ++ p ++ [chk])) ∧
    exec .readQuatFrame s = .next (after [0xBB, 0x01, 0x00, 0xBC]) ∧
    exec .readRpyFrame s = .next (after [0xBB, 0x02, 0x00, 0xBD]) ∧
    exec (.getFrameId chk) s = .next (after [0xBB, Config.probeCmd, 0x00, chk])

/-- The named premise at work: with pre-clear on and nothing arriving before the window, a conforming
device's reply is exactly what an `XFER` of the registry's arity reads, and nothing stays behind.
Choices of the model used: log entries 14, 17, 18. -/
def Obligations.ConformingReplyIsRead : Prop :=
  ∀ (cmd : Byte) (p : List Byte) (e : RegEntry) (s : State),
    p.length ≤ 255 → registry cmd = some e → 1 ≤ e.arity → s.AtRest → s.sess = true →
    s.SendGoes → s.atHand = [] → s.lTimeout ≠ 0 → DeviceConforms cmd s.inWindow →
    ∃ t, exec (.xfer e.arity cmd p) s = .next t ∧ t.ok = true ∧
      t.f = loadFile zeroFile (unpack s.inWindow) ∧ t.tr.rxq = []

/-! ## Reset, registers and the whole machine -/

/-- The reset values that R48 states. -/
def Obligations.ResetValues : Prop :=
  let s := State.reset
  s.seq = .idle ∧ s.busy = false ∧ s.done = false ∧ s.sess = false ∧ s.fatal = false ∧
  s.ok = false ∧ s.err = .noError ∧ (∀ i : Fin 9, s.f[i] = 0x00000000) ∧ s.csum = 0 ∧
  s.flen = 0 ∧ s.txIdx = 0 ∧ s.rxCnt = 0 ∧ s.attempt = 0 ∧
  s.d.op = 0 ∧ s.d.n = 0 ∧ s.d.cmd = 0 ∧ s.d.plen = 0 ∧
  s.cfg.baud = 115200 ∧ s.cfg.timeout = 100 ∧ s.lTimeout = 100 ∧ s.cfg.preclear = true ∧
  s.cfg.probeEn = true ∧ s.cfg.probeAttempts = 10 ∧ s.cfg.probeSpacing = 100 ∧
  s.cfg.probeN = 1 ∧ s.cfg.probeCmd = Config.probeCmd

/-- The `reset` input, in any state: the block takes its reset values, no completion is raised, and what
was on the wire stays on it.
Choices of the model used: log entries 2, 3. -/
def Obligations.ResetInputFromAnyState : Prop :=
  ∀ (s : State) (rest : List Input), s.inputs = .reset :: rest →
    ∃ t, step s = .next t ∧ t.inputs = rest ∧
      t.blockOnly = { State.reset.blockOnly with cfg := { Cfg.reset with port := t.cfg.port } } ∧
      s.tr.wire <+: t.tr.wire ∧ t.call = none

/-- The control registers change by a host write while the block is idle, or by reset, and by nothing
else. An idle write puts its value into its register and leaves the others alone; a write while busy does
nothing. While idle, and only then, the host reads the control registers, `F`, the frame in `FB` and `flen`;
it reads `ok` and `err` at any time.
Choices of the model used: log entries 2, 24, 29. -/
def Obligations.ControlRegistersAreTheHosts : Prop :=
  (∀ (s t : State), step s = .next t → t.cfg ≠ s.cfg →
    (∃ w, s.inputs.head? = some (.cfg w) ∧ s.busy = false ∧ t.cfg = s.cfg.write w) ∨
    (s.inputs.head? = some .reset ∧ t.cfg = { Cfg.reset with port := t.cfg.port })) ∧
  (∀ (s : State) (w : CfgWrite) (rest : List Input), s.inputs = .cfg w :: rest →
    step s = .next (if s.busy then { s with done := false, inputs := rest }
      else { s with done := false, inputs := rest, cfg := s.cfg.write w })) ∧
  (∀ (s : State) (w : CfgWrite) (r : CfgReg), s.busy = false →
    (s.writeCfg w).hostReadCfg r = if r = w.reg then some w else s.hostReadCfg r) ∧
  (∀ (s : State) (r : CfgReg) (i : Fin 9), s.busy = false →
    s.hostReadCfg r = some (s.cfg.read r) ∧ s.hostReadF i = some s.f[i] ∧
    s.hostReadFlen = some s.flen) ∧
  (∀ (s : State) (i : Fin 259) (b : Byte), s.busy = false → i.val < s.flen.toNat →
    s.fb[i.val]? = some b → s.hostReadFB i = some b) ∧
  (∀ s : State, s.hostReadOutcome = (s.ok, s.err)) ∧
  (∀ (s : State) (r : CfgReg) (i : Fin 9) (j : Fin 259), s.busy = true →
    s.hostReadCfg r = none ∧ s.hostReadF i = none ∧ s.hostReadFlen = none ∧
    s.hostReadFB j = none)

/-- The timeout in force is set by `CONNECT`, from `CFG_TIMEOUT`, and by reset, and by nothing else.
Choices of the model used: log entry 2. -/
def Obligations.TimeoutLatchedByConnectOnly : Prop :=
  ∀ (s t : State), Inv s → step s = .next t → t.lTimeout ≠ s.lTimeout →
    (t.lTimeout = t.cfg.timeout ∧ t.d.op = 6) ∨
    s.inputs.head? = some .reset

/-- `STATUS` packs its fields as R39 orders them, with the codes of R26 and R28. -/
def Obligations.StatusFields : Prop :=
  (∀ s : State,
    s.status.getLsbD 10 = s.fatal ∧ s.status.getLsbD 9 = s.sess ∧ s.status.getLsbD 8 = s.busy ∧
    s.status.getLsbD 7 = s.ok ∧ s.status.extractLsb' 4 3 = s.err.code ∧
    s.status.extractLsb' 0 4 = s.seq.code) ∧
  [Err.noError, .timeout, .transportUnavailable, .transportFault, .connectFailed,
    .programmingError].map Err.code = [0, 1, 2, 3, 4, 5] ∧
  [Machine.Seq.idle, .encode, .preclear, .tx, .txDrain, .rxWait, .decode, .resync, .opening,
    .probeSleep, .closing, .fatal].map Seq.code = [0, 1, 2, 3, 4, 5, 6, 7, 8, 9, 10, 15]

/-- The invariant holds after reset. -/
def Obligations.ResetSatisfiesInvariant : Prop := Inv State.reset

/-- Every step keeps the invariant.
Choices of the model used: log entries 2, 7, 20, 23. -/
def Obligations.StepKeepsInvariant : Prop :=
  ∀ s t : State, Inv s → step s = .next t → Inv t

/-- Every operation ends: presented to a block at rest, any descriptor leaves it idle again, or fatal.
Choices of the model used: log entries 7, 25. -/
def Obligations.EveryOperationEnds : Prop :=
  ∀ (i : Instr) (s : State), i.isDescriptor = true → s.AtRest →
    ∃ t, exec i s = .next t ∧ (t.busy = false ∨ t.fatal = true)

/-- Looking at the block in the middle of an operation changes nothing: stopped after any number of
transitions and let go on, it ends in the state that the uninterrupted operation ends in.
Choices of the model used: log entry 2. -/
def Obligations.LookingInIsHarmless : Prop :=
  ∀ (i : Instr) (s t u : State) (k : Nat), Inv s → i.isDescriptor = true → s.AtRest →
    exec i s = .next t → exec i { s with burst := some k } = .next u →
      State.proceed { u with burst := none } = t

/-- Nothing a step does is a fault. A step is refused only where the host presents a packed descriptor
with payload bytes missing.
Choices of the model used: log entry 26. -/
def Obligations.StepAnswersNext : Prop :=
  ∀ s : State, (∃ t, step s = .next t) ∨
    ∃ h pay rest, s.inputs = .packed h pay :: rest ∧ pay.length < (headerPlen h).toNat ∧
      decode (.desc h pay) = .error .truncatedPayload ∧
      step s = .refused (.undecodable .truncatedPayload)
end

