-- ==== Sys2Proof/Laws/State.lean ====
section
/-! SUPPORT. One lemma per field per named update of the state, true by `rfl`, so that no later proof
unfolds a record update. -/

namespace Sys2Proof.Machine

section Goto
variable (s : State) (q : Seq)
@[simp] theorem goto_d : (s.goto q).d = s.d := rfl
@[simp] theorem goto_f : (s.goto q).f = s.f := rfl
@[simp] theorem goto_fb : (s.goto q).fb = s.fb := rfl
@[simp] theorem goto_flen : (s.goto q).flen = s.flen := rfl
@[simp] theorem goto_rxb : (s.goto q).rxb = s.rxb := rfl
@[simp] theorem goto_rxCnt : (s.goto q).rxCnt = s.rxCnt := rfl
@[simp] theorem goto_csum : (s.goto q).csum = s.csum := rfl
@[simp] theorem goto_ok : (s.goto q).ok = s.ok := rfl
@[simp] theorem goto_err : (s.goto q).err = s.err := rfl
@[simp] theorem goto_busy : (s.goto q).busy = s.busy := rfl
@[simp] theorem goto_done : (s.goto q).done = s.done := rfl
@[simp] theorem goto_seq : (s.goto q).seq = q := rfl
@[simp] theorem goto_txIdx : (s.goto q).txIdx = s.txIdx := rfl
@[simp] theorem goto_attempt : (s.goto q).attempt = s.attempt := rfl
@[simp] theorem goto_sess : (s.goto q).sess = s.sess := rfl
@[simp] theorem goto_fatal : (s.goto q).fatal = s.fatal := rfl
@[simp] theorem goto_cfg : (s.goto q).cfg = s.cfg := rfl
@[simp] theorem goto_lTimeout : (s.goto q).lTimeout = s.lTimeout := rfl
@[simp] theorem goto_tr : (s.goto q).tr = s.tr := rfl
@[simp] theorem goto_oracle : (s.goto q).oracle = s.oracle := rfl
@[simp] theorem goto_inputs : (s.goto q).inputs = s.inputs := rfl
@[simp] theorem goto_burst : (s.goto q).burst = s.burst := rfl
@[simp] theorem goto_call : (s.goto q).call = s.call := rfl
@[simp] theorem goto_ret : (s.goto q).ret = s.ret := rfl
end Goto

section Accept
variable (s : State) (l : Latch) (c : Option Pending)
@[simp] theorem accept_d : (s.accept l c).d = l := rfl
@[simp] theorem accept_f : (s.accept l c).f = s.f := rfl
@[simp] theorem accept_fb : (s.accept l c).fb = s.fb := rfl
@[simp] theorem accept_flen : (s.accept l c).flen = s.flen := rfl
@[simp] theorem accept_rxb : (s.accept l c).rxb = s.rxb := rfl
@[simp] theorem accept_rxCnt : (s.accept l c).rxCnt = s.rxCnt := rfl
@[simp] theorem accept_csum : (s.accept l c).csum = s.csum := rfl
@[simp] theorem accept_ok : (s.accept l c).ok = s.ok := rfl
@[simp] theorem accept_err : (s.accept l c).err = s.err := rfl
@[simp] theorem accept_busy : (s.accept l c).busy = true := rfl
@[simp] theorem accept_done : (s.accept l c).done = false := rfl
@[simp] theorem accept_seq : (s.accept l c).seq = s.seq := rfl
@[simp] theorem accept_txIdx : (s.accept l c).txIdx = 0 := rfl
@[simp] theorem accept_attempt : (s.accept l c).attempt = s.attempt := rfl
@[simp] theorem accept_sess : (s.accept l c).sess = s.sess := rfl
@[simp] theorem accept_fatal : (s.accept l c).fatal = s.fatal := rfl
@[simp] theorem accept_cfg : (s.accept l c).cfg = s.cfg := rfl
@[simp] theorem accept_lTimeout : (s.accept l c).lTimeout = s.lTimeout := rfl
@[simp] theorem accept_tr : (s.accept l c).tr = s.tr := rfl
@[simp] theorem accept_oracle : (s.accept l c).oracle = s.oracle := rfl
@[simp] theorem accept_inputs : (s.accept l c).inputs = s.inputs := rfl
@[simp] theorem accept_burst : (s.accept l c).burst = s.burst := rfl
@[simp] theorem accept_call : (s.accept l c).call = c := rfl
@[simp] theorem accept_ret : (s.accept l c).ret = s.ret := rfl
end Accept

section ClearResults
variable (s : State)
@[simp] theorem clearResults_d : s.clearResults.d = s.d := rfl
@[simp] theorem clearResults_f : s.clearResults.f = zeroFile := rfl
@[simp] theorem clearResults_fb : s.clearResults.fb = s.fb := rfl
@[simp] theorem clearResults_flen : s.clearResults.flen = s.flen := rfl
@[simp] theorem clearResults_rxb : s.clearResults.rxb = [] := rfl
@[simp] theorem clearResults_rxCnt : s.clearResults.rxCnt = 0 := rfl
@[simp] theorem clearResults_csum : s.clearResults.csum = s.csum := rfl
@[simp] theorem clearResults_ok : s.clearResults.ok = s.ok := rfl
@[simp] theorem clearResults_err : s.clearResults.err = s.err := rfl
@[simp] theorem clearResults_busy : s.clearResults.busy = s.busy := rfl
@[simp] theorem clearResults_done : s.clearResults.done = s.done := rfl
@[simp] theorem clearResults_seq : s.clearResults.seq = s.seq := rfl
@[simp] theorem clearResults_txIdx : s.clearResults.txIdx = s.txIdx := rfl
@[simp] theorem clearResults_attempt : s.clearResults.attempt = s.attempt := rfl
@[simp] theorem clearResults_sess : s.clearResults.sess = s.sess := rfl
@[simp] theorem clearResults_fatal : s.clearResults.fatal = s.fatal := rfl
@[simp] theorem clearResults_cfg : s.clearResults.cfg = s.cfg := rfl
@[simp] theorem clearResults_lTimeout : s.clearResults.lTimeout = s.lTimeout := rfl
@[simp] theorem clearResults_tr : s.clearResults.tr = s.tr := rfl
@[simp] theorem clearResults_oracle : s.clearResults.oracle = s.oracle := rfl
@[simp] theorem clearResults_inputs : s.clearResults.inputs = s.inputs := rfl
@[simp] theorem clearResults_burst : s.clearResults.burst = s.burst := rfl
@[simp] theorem clearResults_call : s.clearResults.call = s.call := rfl
@[simp] theorem clearResults_ret : s.clearResults.ret = s.ret := rfl
end ClearResults

section Succeed
variable (s : State)
@[simp] theorem succeed_d : s.succeed.d = s.d := rfl
@[simp] theorem succeed_f : s.succeed.f = s.f := rfl
@[simp] theorem succeed_fb : s.succeed.fb = s.fb := rfl
@[simp] theorem succeed_flen : s.succeed.flen = s.flen := rfl
@[simp] theorem succeed_rxb : s.succeed.rxb = s.rxb := rfl
@[simp] theorem succeed_rxCnt : s.succeed.rxCnt = s.rxCnt := rfl
@[simp] theorem succeed_csum : s.succeed.csum = s.csum := rfl
@[simp] theorem succeed_ok : s.succeed.ok = true := rfl
@[simp] theorem succeed_err : s.succeed.err = .noError := rfl
@[simp] theorem succeed_busy : s.succeed.busy = false := rfl
@[simp] theorem succeed_done : s.succeed.done = true := rfl
@[simp] theorem succeed_seq : s.succeed.seq = .idle := rfl
@[simp] theorem succeed_txIdx : s.succeed.txIdx = s.txIdx := rfl
@[simp] theorem succeed_attempt : s.succeed.attempt = s.attempt := rfl
@[simp] theorem succeed_sess : s.succeed.sess = s.sess := rfl
@[simp] theorem succeed_fatal : s.succeed.fatal = s.fatal := rfl
@[simp] theorem succeed_cfg : s.succeed.cfg = s.cfg := rfl
@[simp] theorem succeed_lTimeout : s.succeed.lTimeout = s.lTimeout := rfl
@[simp] theorem succeed_tr : s.succeed.tr = s.tr := rfl
@[simp] theorem succeed_oracle : s.succeed.oracle = s.oracle := rfl
@[simp] theorem succeed_inputs : s.succeed.inputs = s.inputs := rfl
@[simp] theorem succeed_burst : s.succeed.burst = s.burst := rfl
@[simp] theorem succeed_call : s.succeed.call = s.call := rfl
@[simp] theorem succeed_ret : s.succeed.ret = s.ret := rfl
end Succeed

section FailWith
variable (s : State) (k : Err)
@[simp] theorem failWith_d : (s.failWith k).d = s.d := rfl
@[simp] theorem failWith_f : (s.failWith k).f = zeroFile := rfl
@[simp] theorem failWith_fb : (s.failWith k).fb = s.fb := rfl
@[simp] theorem failWith_flen : (s.failWith k).flen = s.flen := rfl
@[simp] theorem failWith_rxb : (s.failWith k).rxb = s.rxb := rfl
@[simp] theorem failWith_rxCnt : (s.failWith k).rxCnt = s.rxCnt := rfl
@[simp] theorem failWith_csum : (s.failWith k).csum = s.csum := rfl
@[simp] theorem failWith_ok : (s.failWith k).ok = false := rfl
@[simp] theorem failWith_err : (s.failWith k).err = k := rfl
@[simp] theorem failWith_busy : (s.failWith k).busy = false := rfl
@[simp] theorem failWith_done : (s.failWith k).done = true := rfl
@[simp] theorem failWith_seq : (s.failWith k).seq = .idle := rfl
@[simp] theorem failWith_txIdx : (s.failWith k).txIdx = s.txIdx := rfl
@[simp] theorem failWith_attempt : (s.failWith k).attempt = s.attempt := rfl
@[simp] theorem failWith_sess : (s.failWith k).sess = s.sess := rfl
@[simp] theorem failWith_fatal : (s.failWith k).fatal = s.fatal := rfl
@[simp] theorem failWith_cfg : (s.failWith k).cfg = s.cfg := rfl
@[simp] theorem failWith_lTimeout : (s.failWith k).lTimeout = s.lTimeout := rfl
@[simp] theorem failWith_tr : (s.failWith k).tr = s.tr := rfl
@[simp] theorem failWith_oracle : (s.failWith k).oracle = s.oracle := rfl
@[simp] theorem failWith_inputs : (s.failWith k).inputs = s.inputs := rfl
@[simp] theorem failWith_burst : (s.failWith k).burst = s.burst := rfl
@[simp] theorem failWith_call : (s.failWith k).call = s.call := rfl
@[simp] theorem failWith_ret : (s.failWith k).ret = s.ret := rfl
end FailWith

section EnterFatal
variable (s : State)
@[simp] theorem enterFatal_d : s.enterFatal.d = s.d := rfl
@[simp] theorem enterFatal_f : s.enterFatal.f = s.f := rfl
@[simp] theorem enterFatal_fb : s.enterFatal.fb = s.fb := rfl
@[simp] theorem enterFatal_flen : s.enterFatal.flen = s.flen := rfl
@[simp] theorem enterFatal_rxb : s.enterFatal.rxb = s.rxb := rfl
@[simp] theorem enterFatal_rxCnt : s.enterFatal.rxCnt = s.rxCnt := rfl
@[simp] theorem enterFatal_csum : s.enterFatal.csum = s.csum := rfl
@[simp] theorem enterFatal_ok : s.enterFatal.ok = false := rfl
@[simp] theorem enterFatal_err : s.enterFatal.err = .programmingError := rfl
@[simp] theorem enterFatal_busy : s.enterFatal.busy = true := rfl
@[simp] theorem enterFatal_done : s.enterFatal.done = false := rfl
@[simp] theorem enterFatal_seq : s.enterFatal.seq = .fatal := rfl
@[simp] theorem enterFatal_txIdx : s.enterFatal.txIdx = s.txIdx := rfl
@[simp] theorem enterFatal_attempt : s.enterFatal.attempt = s.attempt := rfl
@[simp] theorem enterFatal_sess : s.enterFatal.sess = s.sess := rfl
@[simp] theorem enterFatal_fatal : s.enterFatal.fatal = true := rfl
@[simp] theorem enterFatal_cfg : s.enterFatal.cfg = s.cfg := rfl
@[simp] theorem enterFatal_lTimeout : s.enterFatal.lTimeout = s.lTimeout := rfl
@[simp] theorem enterFatal_tr : s.enterFatal.tr = s.tr := rfl
@[simp] theorem enterFatal_oracle : s.enterFatal.oracle = s.oracle := rfl
@[simp] theorem enterFatal_inputs : s.enterFatal.inputs = s.inputs := rfl
@[simp] theorem enterFatal_burst : s.enterFatal.burst = s.burst := rfl
@[simp] theorem enterFatal_call : s.enterFatal.call = s.call := rfl
@[simp] theorem enterFatal_ret : s.enterFatal.ret = s.ret := rfl
end EnterFatal

section Drawn
variable (s : State)
@[simp] theorem drawn_d : s.drawn.d = s.d := rfl
@[simp] theorem drawn_f : s.drawn.f = s.f := rfl
@[simp] theorem drawn_fb : s.drawn.fb = s.fb := rfl
@[simp] theorem drawn_flen : s.drawn.flen = s.flen := rfl
@[simp] theorem drawn_rxb : s.drawn.rxb = s.rxb := rfl
@[simp] theorem drawn_rxCnt : s.drawn.rxCnt = s.rxCnt := rfl
@[simp] theorem drawn_csum : s.drawn.csum = s.csum := rfl
@[simp] theorem drawn_ok : s.drawn.ok = s.ok := rfl
@[simp] theorem drawn_err : s.drawn.err = s.err := rfl
@[simp] theorem drawn_busy : s.drawn.busy = s.busy := rfl
@[simp] theorem drawn_done : s.drawn.done = s.done := rfl
@[simp] theorem drawn_seq : s.drawn.seq = s.seq := rfl
@[simp] theorem drawn_txIdx : s.drawn.txIdx = s.txIdx := rfl
@[simp] theorem drawn_attempt : s.drawn.attempt = s.attempt := rfl
@[simp] theorem drawn_sess : s.drawn.sess = s.sess := rfl
@[simp] theorem drawn_fatal : s.drawn.fatal = s.fatal := rfl
@[simp] theorem drawn_cfg : s.drawn.cfg = s.cfg := rfl
@[simp] theorem drawn_lTimeout : s.drawn.lTimeout = s.lTimeout := rfl
@[simp] theorem drawn_tr : s.drawn.tr = s.tr := rfl
@[simp] theorem drawn_oracle : s.drawn.oracle = s.oracle.after 1 := rfl
@[simp] theorem drawn_inputs : s.drawn.inputs = s.inputs := rfl
@[simp] theorem drawn_burst : s.drawn.burst = s.burst := rfl
@[simp] theorem drawn_call : s.drawn.call = s.call := rfl
@[simp] theorem drawn_ret : s.drawn.ret = s.ret := rfl
end Drawn

section WithTransport
variable (s : State) (t : Transport)
@[simp] theorem withTransport_d : (s.withTransport t).d = s.d := rfl
@[simp] theorem withTransport_f : (s.withTransport t).f = s.f := rfl
@[simp] theorem withTransport_fb : (s.withTransport t).fb = s.fb := rfl
@[simp] theorem withTransport_flen : (s.withTransport t).flen = s.flen := rfl
@[simp] theorem withTransport_rxb : (s.withTransport t).rxb = s.rxb := rfl
@[simp] theorem withTransport_rxCnt : (s.withTransport t).rxCnt = s.rxCnt := rfl
@[simp] theorem withTransport_csum : (s.withTransport t).csum = s.csum := rfl
@[simp] theorem withTransport_ok : (s.withTransport t).ok = s.ok := rfl
@[simp] theorem withTransport_err : (s.withTransport t).err = s.err := rfl
@[simp] theorem withTransport_busy : (s.withTransport t).busy = s.busy := rfl
@[simp] theorem withTransport_done : (s.withTransport t).done = s.done := rfl
@[simp] theorem withTransport_seq : (s.withTransport t).seq = s.seq := rfl
@[simp] theorem withTransport_txIdx : (s.withTransport t).txIdx = s.txIdx := rfl
@[simp] theorem withTransport_attempt : (s.withTransport t).attempt = s.attempt := rfl
@[simp] theorem withTransport_sess : (s.withTransport t).sess = s.sess := rfl
@[simp] theorem withTransport_fatal : (s.withTransport t).fatal = s.fatal := rfl
@[simp] theorem withTransport_cfg : (s.withTransport t).cfg = s.cfg := rfl
@[simp] theorem withTransport_lTimeout : (s.withTransport t).lTimeout = s.lTimeout := rfl
@[simp] theorem withTransport_tr : (s.withTransport t).tr = t := rfl
@[simp] theorem withTransport_oracle : (s.withTransport t).oracle = s.oracle.after 1 := rfl
@[simp] theorem withTransport_inputs : (s.withTransport t).inputs = s.inputs := rfl
@[simp] theorem withTransport_burst : (s.withTransport t).burst = s.burst := rfl
@[simp] theorem withTransport_call : (s.withTransport t).call = s.call := rfl
@[simp] theorem withTransport_ret : (s.withTransport t).ret = s.ret := rfl
end WithTransport

section Marshal
variable (s : State) (c : Byte) (p : List Byte)
@[simp] theorem marshal_d : (s.marshal c p).d = s.d := rfl
@[simp] theorem marshal_f : (s.marshal c p).f = s.f := rfl
@[simp] theorem marshal_fb : (s.marshal c p).fb = frameOf c p := rfl
@[simp] theorem marshal_flen : (s.marshal c p).flen = BitVec.ofNat 9 (Config.codec.frameOverhead + p.length) := rfl
@[simp] theorem marshal_rxb : (s.marshal c p).rxb = s.rxb := rfl
@[simp] theorem marshal_rxCnt : (s.marshal c p).rxCnt = s.rxCnt := rfl
@[simp] theorem marshal_csum : (s.marshal c p).csum = frameSum c p := rfl
@[simp] theorem marshal_ok : (s.marshal c p).ok = s.ok := rfl
@[simp] theorem marshal_err : (s.marshal c p).err = s.err := rfl
@[simp] theorem marshal_busy : (s.marshal c p).busy = s.busy := rfl
@[simp] theorem marshal_done : (s.marshal c p).done = s.done := rfl
@[simp] theorem marshal_seq : (s.marshal c p).seq = s.seq := rfl
@[simp] theorem marshal_txIdx : (s.marshal c p).txIdx = s.txIdx := rfl
@[simp] theorem marshal_attempt : (s.marshal c p).attempt = s.attempt := rfl
@[simp] theorem marshal_sess : (s.marshal c p).sess = s.sess := rfl
@[simp] theorem marshal_fatal : (s.marshal c p).fatal = s.fatal := rfl
@[simp] theorem marshal_cfg : (s.marshal c p).cfg = s.cfg := rfl
@[simp] theorem marshal_lTimeout : (s.marshal c p).lTimeout = s.lTimeout := rfl
@[simp] theorem marshal_tr : (s.marshal c p).tr = s.tr := rfl
@[simp] theorem marshal_oracle : (s.marshal c p).oracle = s.oracle := rfl
@[simp] theorem marshal_inputs : (s.marshal c p).inputs = s.inputs := rfl
@[simp] theorem marshal_burst : (s.marshal c p).burst = s.burst := rfl
@[simp] theorem marshal_call : (s.marshal c p).call = s.call := rfl
@[simp] theorem marshal_ret : (s.marshal c p).ret = s.ret := rfl
end Marshal

section PulseOver
variable (s : State)
@[simp] theorem pulseOver_d : s.pulseOver.d = s.d := rfl
@[simp] theorem pulseOver_f : s.pulseOver.f = s.f := rfl
@[simp] theorem pulseOver_fb : s.pulseOver.fb = s.fb := rfl
@[simp] theorem pulseOver_flen : s.pulseOver.flen = s.flen := rfl
@[simp] theorem pulseOver_rxb : s.pulseOver.rxb = s.rxb := rfl
@[simp] theorem pulseOver_rxCnt : s.pulseOver.rxCnt = s.rxCnt := rfl
@[simp] theorem pulseOver_csum : s.pulseOver.csum = s.csum := rfl
@[simp] theorem pulseOver_ok : s.pulseOver.ok = s.ok := rfl
@[simp] theorem pulseOver_err : s.pulseOver.err = s.err := rfl
@[simp] theorem pulseOver_busy : s.pulseOver.busy = s.busy := rfl
@[simp] theorem pulseOver_done : s.pulseOver.done = false := rfl
@[simp] theorem pulseOver_seq : s.pulseOver.seq = s.seq := rfl
@[simp] theorem pulseOver_txIdx : s.pulseOver.txIdx = s.txIdx := rfl
@[simp] theorem pulseOver_attempt : s.pulseOver.attempt = s.attempt := rfl
@[simp] theorem pulseOver_sess : s.pulseOver.sess = s.sess := rfl
@[simp] theorem pulseOver_fatal : s.pulseOver.fatal = s.fatal := rfl
@[simp] theorem pulseOver_cfg : s.pulseOver.cfg = s.cfg := rfl
@[simp] theorem pulseOver_lTimeout : s.pulseOver.lTimeout = s.lTimeout := rfl
@[simp] theorem pulseOver_tr : s.pulseOver.tr = s.tr := rfl
@[simp] theorem pulseOver_oracle : s.pulseOver.oracle = s.oracle := rfl
@[simp] theorem pulseOver_inputs : s.pulseOver.inputs = s.inputs := rfl
@[simp] theorem pulseOver_burst : s.pulseOver.burst = s.burst := rfl
@[simp] theorem pulseOver_call : s.pulseOver.call = s.call := rfl
@[simp] theorem pulseOver_ret : s.pulseOver.ret = s.ret := rfl
end PulseOver

section InputsLeft
variable (s : State) (r : List Input)
@[simp] theorem inputsLeft_d : (s.inputsLeft r).d = s.d := rfl
@[simp] theorem inputsLeft_f : (s.inputsLeft r).f = s.f := rfl
@[simp] theorem inputsLeft_fb : (s.inputsLeft r).fb = s.fb := rfl
@[simp] theorem inputsLeft_flen : (s.inputsLeft r).flen = s.flen := rfl
@[simp] theorem inputsLeft_rxb : (s.inputsLeft r).rxb = s.rxb := rfl
@[simp] theorem inputsLeft_rxCnt : (s.inputsLeft r).rxCnt = s.rxCnt := rfl
@[simp] theorem inputsLeft_csum : (s.inputsLeft r).csum = s.csum := rfl
@[simp] theorem inputsLeft_ok : (s.inputsLeft r).ok = s.ok := rfl
@[simp] theorem inputsLeft_err : (s.inputsLeft r).err = s.err := rfl
@[simp] theorem inputsLeft_busy : (s.inputsLeft r).busy = s.busy := rfl
@[simp] theorem inputsLeft_done : (s.inputsLeft r).done = s.done := rfl
@[simp] theorem inputsLeft_seq : (s.inputsLeft r).seq = s.seq := rfl
@[simp] theorem inputsLeft_txIdx : (s.inputsLeft r).txIdx = s.txIdx := rfl
@[simp] theorem inputsLeft_attempt : (s.inputsLeft r).attempt = s.attempt := rfl
@[simp] theorem inputsLeft_sess : (s.inputsLeft r).sess = s.sess := rfl
@[simp] theorem inputsLeft_fatal : (s.inputsLeft r).fatal = s.fatal := rfl
@[simp] theorem inputsLeft_cfg : (s.inputsLeft r).cfg = s.cfg := rfl
@[simp] theorem inputsLeft_lTimeout : (s.inputsLeft r).lTimeout = s.lTimeout := rfl
@[simp] theorem inputsLeft_tr : (s.inputsLeft r).tr = s.tr := rfl
@[simp] theorem inputsLeft_oracle : (s.inputsLeft r).oracle = s.oracle := rfl
@[simp] theorem inputsLeft_inputs : (s.inputsLeft r).inputs = r := rfl
@[simp] theorem inputsLeft_burst : (s.inputsLeft r).burst = s.burst := rfl
@[simp] theorem inputsLeft_call : (s.inputsLeft r).call = s.call := rfl
@[simp] theorem inputsLeft_ret : (s.inputsLeft r).ret = s.ret := rfl
end InputsLeft

section Returned
variable (s : State) (r : TypedResult)
@[simp] theorem returned_d : (s.returned r).d = s.d := rfl
@[simp] theorem returned_f : (s.returned r).f = s.f := rfl
@[simp] theorem returned_fb : (s.returned r).fb = s.fb := rfl
@[simp] theorem returned_flen : (s.returned r).flen = s.flen := rfl
@[simp] theorem returned_rxb : (s.returned r).rxb = s.rxb := rfl
@[simp] theorem returned_rxCnt : (s.returned r).rxCnt = s.rxCnt := rfl
@[simp] theorem returned_csum : (s.returned r).csum = s.csum := rfl
@[simp] theorem returned_ok : (s.returned r).ok = s.ok := rfl
@[simp] theorem returned_err : (s.returned r).err = s.err := rfl
@[simp] theorem returned_busy : (s.returned r).busy = s.busy := rfl
@[simp] theorem returned_done : (s.returned r).done = s.done := rfl
@[simp] theorem returned_seq : (s.returned r).seq = s.seq := rfl
@[simp] theorem returned_txIdx : (s.returned r).txIdx = s.txIdx := rfl
@[simp] theorem returned_attempt : (s.returned r).attempt = s.attempt := rfl
@[simp] theorem returned_sess : (s.returned r).sess = s.sess := rfl
@[simp] theorem returned_fatal : (s.returned r).fatal = s.fatal := rfl
@[simp] theorem returned_cfg : (s.returned r).cfg = s.cfg := rfl
@[simp] theorem returned_lTimeout : (s.returned r).lTimeout = s.lTimeout := rfl
@[simp] theorem returned_tr : (s.returned r).tr = s.tr := rfl
@[simp] theorem returned_oracle : (s.returned r).oracle = s.oracle := rfl
@[simp] theorem returned_inputs : (s.returned r).inputs = s.inputs := rfl
@[simp] theorem returned_burst : (s.returned r).burst = s.burst := rfl
@[simp] theorem returned_call : (s.returned r).call = none := rfl
@[simp] theorem returned_ret : (s.returned r).ret = some r := rfl
end Returned

section Handed
variable (s : State) (k : Nat)
@[simp] theorem handed_d : (s.handed k).d = s.d := rfl
@[simp] theorem handed_f : (s.handed k).f = s.f := rfl
@[simp] theorem handed_fb : (s.handed k).fb = s.fb := rfl
@[simp] theorem handed_flen : (s.handed k).flen = s.flen := rfl
@[simp] theorem handed_rxb : (s.handed k).rxb = s.rxb := rfl
@[simp] theorem handed_rxCnt : (s.handed k).rxCnt = s.rxCnt := rfl
@[simp] theorem handed_csum : (s.handed k).csum = s.csum := rfl
@[simp] theorem handed_ok : (s.handed k).ok = s.ok := rfl
@[simp] theorem handed_err : (s.handed k).err = s.err := rfl
@[simp] theorem handed_busy : (s.handed k).busy = s.busy := rfl
@[simp] theorem handed_done : (s.handed k).done = s.done := rfl
@[simp] theorem handed_seq : (s.handed k).seq = s.seq := rfl
@[simp] theorem handed_txIdx : (s.handed k).txIdx = BitVec.ofNat 9 k := rfl
@[simp] theorem handed_attempt : (s.handed k).attempt = s.attempt := rfl
@[simp] theorem handed_sess : (s.handed k).sess = s.sess := rfl
@[simp] theorem handed_fatal : (s.handed k).fatal = s.fatal := rfl
@[simp] theorem handed_cfg : (s.handed k).cfg = s.cfg := rfl
@[simp] theorem handed_lTimeout : (s.handed k).lTimeout = s.lTimeout := rfl
@[simp] theorem handed_tr : (s.handed k).tr = s.tr := rfl
@[simp] theorem handed_oracle : (s.handed k).oracle = s.oracle := rfl
@[simp] theorem handed_inputs : (s.handed k).inputs = s.inputs := rfl
@[simp] theorem handed_burst : (s.handed k).burst = s.burst := rfl
@[simp] theorem handed_call : (s.handed k).call = s.call := rfl
@[simp] theorem handed_ret : (s.handed k).ret = s.ret := rfl
end Handed

section Received
variable (s : State) (b : List Byte)
@[simp] theorem received_d : (s.received b).d = s.d := rfl
@[simp] theorem received_f : (s.received b).f = s.f := rfl
@[simp] theorem received_fb : (s.received b).fb = s.fb := rfl
@[simp] theorem received_flen : (s.received b).flen = s.flen := rfl
@[simp] theorem received_rxb : (s.received b).rxb = b := rfl
@[simp] theorem received_rxCnt : (s.received b).rxCnt = BitVec.ofNat 6 b.length := rfl
@[simp] theorem received_csum : (s.received b).csum = s.csum := rfl
@[simp] theorem received_ok : (s.received b).ok = s.ok := rfl
@[simp] theorem received_err : (s.received b).err = s.err := rfl
@[simp] theorem received_busy : (s.received b).busy = s.busy := rfl
@[simp] theorem received_done : (s.received b).done = s.done := rfl
@[simp] theorem received_seq : (s.received b).seq = s.seq := rfl
@[simp] theorem received_txIdx : (s.received b).txIdx = s.txIdx := rfl
@[simp] theorem received_attempt : (s.received b).attempt = s.attempt := rfl
@[simp] theorem received_sess : (s.received b).sess = s.sess := rfl
@[simp] theorem received_fatal : (s.received b).fatal = s.fatal := rfl
@[simp] theorem received_cfg : (s.received b).cfg = s.cfg := rfl
@[simp] theorem received_lTimeout : (s.received b).lTimeout = s.lTimeout := rfl
@[simp] theorem received_tr : (s.received b).tr = s.tr := rfl
@[simp] theorem received_oracle : (s.received b).oracle = s.oracle := rfl
@[simp] theorem received_inputs : (s.received b).inputs = s.inputs := rfl
@[simp] theorem received_burst : (s.received b).burst = s.burst := rfl
@[simp] theorem received_call : (s.received b).call = s.call := rfl
@[simp] theorem received_ret : (s.received b).ret = s.ret := rfl
end Received

section Decoded
variable (s : State)
@[simp] theorem decoded_d : s.decoded.d = s.d := rfl
@[simp] theorem decoded_f : s.decoded.f = loadFile s.f (unpack (s.rxb.take s.replySize)) := rfl
@[simp] theorem decoded_fb : s.decoded.fb = s.fb := rfl
@[simp] theorem decoded_flen : s.decoded.flen = s.flen := rfl
@[simp] theorem decoded_rxb : s.decoded.rxb = s.rxb := rfl
@[simp] theorem decoded_rxCnt : s.decoded.rxCnt = s.rxCnt := rfl
@[simp] theorem decoded_csum : s.decoded.csum = s.csum := rfl
@[simp] theorem decoded_ok : s.decoded.ok = s.ok := rfl
@[simp] theorem decoded_err : s.decoded.err = s.err := rfl
@[simp] theorem decoded_busy : s.decoded.busy = s.busy := rfl
@[simp] theorem decoded_done : s.decoded.done = s.done := rfl
@[simp] theorem decoded_seq : s.decoded.seq = s.seq := rfl
@[simp] theorem decoded_txIdx : s.decoded.txIdx = s.txIdx := rfl
@[simp] theorem decoded_attempt : s.decoded.attempt = s.attempt := rfl
@[simp] theorem decoded_sess : s.decoded.sess = s.sess := rfl
@[simp] theorem decoded_fatal : s.decoded.fatal = s.fatal := rfl
@[simp] theorem decoded_cfg : s.decoded.cfg = s.cfg := rfl
@[simp] theorem decoded_lTimeout : s.decoded.lTimeout = s.lTimeout := rfl
@[simp] theorem decoded_tr : s.decoded.tr = s.tr := rfl
@[simp] theorem decoded_oracle : s.decoded.oracle = s.oracle := rfl
@[simp] theorem decoded_inputs : s.decoded.inputs = s.inputs := rfl
@[simp] theorem decoded_burst : s.decoded.burst = s.burst := rfl
@[simp] theorem decoded_call : s.decoded.call = s.call := rfl
@[simp] theorem decoded_ret : s.decoded.ret = s.ret := rfl
end Decoded

section LatchTimeout
variable (s : State)
@[simp] theorem latchTimeout_d : s.latchTimeout.d = s.d := rfl
@[simp] theorem latchTimeout_f : s.latchTimeout.f = s.f := rfl
@[simp] theorem latchTimeout_fb : s.latchTimeout.fb = s.fb := rfl
@[simp] theorem latchTimeout_flen : s.latchTimeout.flen = s.flen := rfl
@[simp] theorem latchTimeout_rxb : s.latchTimeout.rxb = s.rxb := rfl
@[simp] theorem latchTimeout_rxCnt : s.latchTimeout.rxCnt = s.rxCnt := rfl
@[simp] theorem latchTimeout_csum : s.latchTimeout.csum = s.csum := rfl
@[simp] theorem latchTimeout_ok : s.latchTimeout.ok = s.ok := rfl
@[simp] theorem latchTimeout_err : s.latchTimeout.err = s.err := rfl
@[simp] theorem latchTimeout_busy : s.latchTimeout.busy = s.busy := rfl
@[simp] theorem latchTimeout_done : s.latchTimeout.done = s.done := rfl
@[simp] theorem latchTimeout_seq : s.latchTimeout.seq = s.seq := rfl
@[simp] theorem latchTimeout_txIdx : s.latchTimeout.txIdx = s.txIdx := rfl
@[simp] theorem latchTimeout_attempt : s.latchTimeout.attempt = s.attempt := rfl
@[simp] theorem latchTimeout_sess : s.latchTimeout.sess = s.sess := rfl
@[simp] theorem latchTimeout_fatal : s.latchTimeout.fatal = s.fatal := rfl
@[simp] theorem latchTimeout_cfg : s.latchTimeout.cfg = s.cfg := rfl
@[simp] theorem latchTimeout_lTimeout : s.latchTimeout.lTimeout = s.cfg.timeout := rfl
@[simp] theorem latchTimeout_tr : s.latchTimeout.tr = s.tr := rfl
@[simp] theorem latchTimeout_oracle : s.latchTimeout.oracle = s.oracle := rfl
@[simp] theorem latchTimeout_inputs : s.latchTimeout.inputs = s.inputs := rfl
@[simp] theorem latchTimeout_burst : s.latchTimeout.burst = s.burst := rfl
@[simp] theorem latchTimeout_call : s.latchTimeout.call = s.call := rfl
@[simp] theorem latchTimeout_ret : s.latchTimeout.ret = s.ret := rfl
end LatchTimeout

section LatchProbe
variable (s : State)
@[simp] theorem latchProbe_d : s.latchProbe.d = { s.d with cmd := s.cfg.probeCmd, plen := 0, pay := [], n := s.cfg.probeArity } := rfl
@[simp] theorem latchProbe_f : s.latchProbe.f = s.f := rfl
@[simp] theorem latchProbe_fb : s.latchProbe.fb = s.fb := rfl
@[simp] theorem latchProbe_flen : s.latchProbe.flen = s.flen := rfl
@[simp] theorem latchProbe_rxb : s.latchProbe.rxb = s.rxb := rfl
@[simp] theorem latchProbe_rxCnt : s.latchProbe.rxCnt = s.rxCnt := rfl
@[simp] theorem latchProbe_csum : s.latchProbe.csum = s.csum := rfl
@[simp] theorem latchProbe_ok : s.latchProbe.ok = s.ok := rfl
@[simp] theorem latchProbe_err : s.latchProbe.err = s.err := rfl
@[simp] theorem latchProbe_busy : s.latchProbe.busy = s.busy := rfl
@[simp] theorem latchProbe_done : s.latchProbe.done = s.done := rfl
@[simp] theorem latchProbe_seq : s.latchProbe.seq = s.seq := rfl
@[simp] theorem latchProbe_txIdx : s.latchProbe.txIdx = s.txIdx := rfl
@[simp] theorem latchProbe_attempt : s.latchProbe.attempt = s.attempt := rfl
@[simp] theorem latchProbe_sess : s.latchProbe.sess = s.sess := rfl
@[simp] theorem latchProbe_fatal : s.latchProbe.fatal = s.fatal := rfl
@[simp] theorem latchProbe_cfg : s.latchProbe.cfg = s.cfg := rfl
@[simp] theorem latchProbe_lTimeout : s.latchProbe.lTimeout = s.lTimeout := rfl
@[simp] theorem latchProbe_tr : s.latchProbe.tr = s.tr := rfl
@[simp] theorem latchProbe_oracle : s.latchProbe.oracle = s.oracle := rfl
@[simp] theorem latchProbe_inputs : s.latchProbe.inputs = s.inputs := rfl
@[simp] theorem latchProbe_burst : s.latchProbe.burst = s.burst := rfl
@[simp] theorem latchProbe_call : s.latchProbe.call = s.call := rfl
@[simp] theorem latchProbe_ret : s.latchProbe.ret = s.ret := rfl
end LatchProbe

section OpenSession
variable (s : State)
@[simp] theorem openSession_d : s.openSession.d = s.d := rfl
@[simp] theorem openSession_f : s.openSession.f = s.f := rfl
@[simp] theorem openSession_fb : s.openSession.fb = s.fb := rfl
@[simp] theorem openSession_flen : s.openSession.flen = s.flen := rfl
@[simp] theorem openSession_rxb : s.openSession.rxb = s.rxb := rfl
@[simp] theorem openSession_rxCnt : s.openSession.rxCnt = s.rxCnt := rfl
@[simp] theorem openSession_csum : s.openSession.csum = s.csum := rfl
@[simp] theorem openSession_ok : s.openSession.ok = s.ok := rfl
@[simp] theorem openSession_err : s.openSession.err = s.err := rfl
@[simp] theorem openSession_busy : s.openSession.busy = s.busy := rfl
@[simp] theorem openSession_done : s.openSession.done = s.done := rfl
@[simp] theorem openSession_seq : s.openSession.seq = s.seq := rfl
@[simp] theorem openSession_txIdx : s.openSession.txIdx = s.txIdx := rfl
@[simp] theorem openSession_attempt : s.openSession.attempt = s.attempt := rfl
@[simp] theorem openSession_sess : s.openSession.sess = true := rfl
@[simp] theorem openSession_fatal : s.openSession.fatal = s.fatal := rfl
@[simp] theorem openSession_cfg : s.openSession.cfg = s.cfg := rfl
@[simp] theorem openSession_lTimeout : s.openSession.lTimeout = s.lTimeout := rfl
@[simp] theorem openSession_tr : s.openSession.tr = s.tr := rfl
@[simp] theorem openSession_oracle : s.openSession.oracle = s.oracle := rfl
@[simp] theorem openSession_inputs : s.openSession.inputs = s.inputs := rfl
@[simp] theorem openSession_burst : s.openSession.burst = s.burst := rfl
@[simp] theorem openSession_call : s.openSession.call = s.call := rfl
@[simp] theorem openSession_ret : s.openSession.ret = s.ret := rfl
end OpenSession

section EndSession
variable (s : State)
@[simp] theorem endSession_d : s.endSession.d = s.d := rfl
@[simp] theorem endSession_f : s.endSession.f = s.f := rfl
@[simp] theorem endSession_fb : s.endSession.fb = s.fb := rfl
@[simp] theorem endSession_flen : s.endSession.flen = s.flen := rfl
@[simp] theorem endSession_rxb : s.endSession.rxb = s.rxb := rfl
@[simp] theorem endSession_rxCnt : s.endSession.rxCnt = s.rxCnt := rfl
@[simp] theorem endSession_csum : s.endSession.csum = s.csum := rfl
@[simp] theorem endSession_ok : s.endSession.ok = s.ok := rfl
@[simp] theorem endSession_err : s.endSession.err = s.err := rfl
@[simp] theorem endSession_busy : s.endSession.busy = s.busy := rfl
@[simp] theorem endSession_done : s.endSession.done = s.done := rfl
@[simp] theorem endSession_seq : s.endSession.seq = s.seq := rfl
@[simp] theorem endSession_txIdx : s.endSession.txIdx = s.txIdx := rfl
@[simp] theorem endSession_attempt : s.endSession.attempt = s.attempt := rfl
@[simp] theorem endSession_sess : s.endSession.sess = false := rfl
@[simp] theorem endSession_fatal : s.endSession.fatal = s.fatal := rfl
@[simp] theorem endSession_cfg : s.endSession.cfg = s.cfg := rfl
@[simp] theorem endSession_lTimeout : s.endSession.lTimeout = s.lTimeout := rfl
@[simp] theorem endSession_tr : s.endSession.tr = s.tr := rfl
@[simp] theorem endSession_oracle : s.endSession.oracle = s.oracle := rfl
@[simp] theorem endSession_inputs : s.endSession.inputs = s.inputs := rfl
@[simp] theorem endSession_burst : s.endSession.burst = s.burst := rfl
@[simp] theorem endSession_call : s.endSession.call = s.call := rfl
@[simp] theorem endSession_ret : s.endSession.ret = s.ret := rfl
end EndSession

section NoAttempt
variable (s : State)
@[simp] theorem noAttempt_d : s.noAttempt.d = s.d := rfl
@[simp] theorem noAttempt_f : s.noAttempt.f = s.f := rfl
@[simp] theorem noAttempt_fb : s.noAttempt.fb = s.fb := rfl
@[simp] theorem noAttempt_flen : s.noAttempt.flen = s.flen := rfl
@[simp] theorem noAttempt_rxb : s.noAttempt.rxb = s.rxb := rfl
@[simp] theorem noAttempt_rxCnt : s.noAttempt.rxCnt = s.rxCnt := rfl
@[simp] theorem noAttempt_csum : s.noAttempt.csum = s.csum := rfl
@[simp] theorem noAttempt_ok : s.noAttempt.ok = s.ok := rfl
@[simp] theorem noAttempt_err : s.noAttempt.err = s.err := rfl
@[simp] theorem noAttempt_busy : s.noAttempt.busy = s.busy := rfl
@[simp] theorem noAttempt_done : s.noAttempt.done = s.done := rfl
@[simp] theorem noAttempt_seq : s.noAttempt.seq = s.seq := rfl
@[simp] theorem noAttempt_txIdx : s.noAttempt.txIdx = s.txIdx := rfl
@[simp] theorem noAttempt_attempt : s.noAttempt.attempt = 0 := rfl
@[simp] theorem noAttempt_sess : s.noAttempt.sess = s.sess := rfl
@[simp] theorem noAttempt_fatal : s.noAttempt.fatal = s.fatal := rfl
@[simp] theorem noAttempt_cfg : s.noAttempt.cfg = s.cfg := rfl
@[simp] theorem noAttempt_lTimeout : s.noAttempt.lTimeout = s.lTimeout := rfl
@[simp] theorem noAttempt_tr : s.noAttempt.tr = s.tr := rfl
@[simp] theorem noAttempt_oracle : s.noAttempt.oracle = s.oracle := rfl
@[simp] theorem noAttempt_inputs : s.noAttempt.inputs = s.inputs := rfl
@[simp] theorem noAttempt_burst : s.noAttempt.burst = s.burst := rfl
@[simp] theorem noAttempt_call : s.noAttempt.call = s.call := rfl
@[simp] theorem noAttempt_ret : s.noAttempt.ret = s.ret := rfl
end NoAttempt

section NextAttempt
variable (s : State)
@[simp] theorem nextAttempt_d : s.nextAttempt.d = s.d := rfl
@[simp] theorem nextAttempt_f : s.nextAttempt.f = s.f := rfl
@[simp] theorem nextAttempt_fb : s.nextAttempt.fb = s.fb := rfl
@[simp] theorem nextAttempt_flen : s.nextAttempt.flen = s.flen := rfl
@[simp] theorem nextAttempt_rxb : s.nextAttempt.rxb = s.rxb := rfl
@[simp] theorem nextAttempt_rxCnt : s.nextAttempt.rxCnt = s.rxCnt := rfl
@[simp] theorem nextAttempt_csum : s.nextAttempt.csum = s.csum := rfl
@[simp] theorem nextAttempt_ok : s.nextAttempt.ok = s.ok := rfl
@[simp] theorem nextAttempt_err : s.nextAttempt.err = s.err := rfl
@[simp] theorem nextAttempt_busy : s.nextAttempt.busy = s.busy := rfl
@[simp] theorem nextAttempt_done : s.nextAttempt.done = s.done := rfl
@[simp] theorem nextAttempt_seq : s.nextAttempt.seq = .encode := rfl
@[simp] theorem nextAttempt_txIdx : s.nextAttempt.txIdx = s.txIdx := rfl
@[simp] theorem nextAttempt_attempt : s.nextAttempt.attempt = s.attempt + 1 := rfl
@[simp] theorem nextAttempt_sess : s.nextAttempt.sess = s.sess := rfl
@[simp] theorem nextAttempt_fatal : s.nextAttempt.fatal = s.fatal := rfl
@[simp] theorem nextAttempt_cfg : s.nextAttempt.cfg = s.cfg := rfl
@[simp] theorem nextAttempt_lTimeout : s.nextAttempt.lTimeout = s.lTimeout := rfl
@[simp] theorem nextAttempt_tr : s.nextAttempt.tr = s.tr := rfl
@[simp] theorem nextAttempt_oracle : s.nextAttempt.oracle = s.oracle := rfl
@[simp] theorem nextAttempt_inputs : s.nextAttempt.inputs = s.inputs := rfl
@[simp] theorem nextAttempt_burst : s.nextAttempt.burst = s.burst := rfl
@[simp] theorem nextAttempt_call : s.nextAttempt.call = s.call := rfl
@[simp] theorem nextAttempt_ret : s.nextAttempt.ret = s.ret := rfl
end NextAttempt

end Sys2Proof.Machine
end

