-- ==== Sys2Proof/Laws/Ops.lean ====
section
/-! SUPPORT. One lemma per shared operation that says everything it can do; later proofs cite these
and do not unfold the operation. -/

namespace Sys2Proof.Machine

theorem oracle_after_zero (o : Oracle) : o.after 0 = o := by
  simp [Oracle.after]

/-- Answers are used up one after the other. -/
theorem oracle_after_after (o : Oracle) (j k : Nat) : (o.after j).after k = o.after (j + k) := by
  simp only [Oracle.after, List.drop_drop, List.length_drop, Oracle.mk.injEq, true_and]
  omega

/-- After `j` answers, the `k`-th to come is the `j + k`-th of before. -/
theorem oracle_after_ahead (o : Oracle) (j k : Nat) : (o.after j).ahead k = o.ahead (j + k) := by
  have h : o.draws + (j - o.tape.length) + (k - (o.tape.length - j)) =
      o.draws + (j + k - o.tape.length) ∨ j + k < o.tape.length := by omega
  rcases h with h | h
  · simp [Oracle.after, Oracle.ahead, List.drop_drop, h]
  · simp only [Oracle.after, Oracle.ahead, List.drop_drop]
    rw [List.drop_eq_getElem_cons h]

theorem primOk_iff (s : State) : s.primOk = true ↔ s.tr.isOpen = true ∧ s.answer.fault = false := by
  simp [State.primOk]

@[simp] theorem arrive_isOpen (t : Transport) (b : List Byte) : (t.arrive b).isOpen = t.isOpen := by
  unfold Transport.arrive; split <;> rfl

@[simp] theorem arrive_txq (t : Transport) (b : List Byte) : (t.arrive b).txq = t.txq := by
  unfold Transport.arrive; split <;> rfl

@[simp] theorem arrive_wire (t : Transport) (b : List Byte) : (t.arrive b).wire = t.wire := by
  unfold Transport.arrive; split <;> rfl

@[simp] theorem arrive_taken (t : Transport) (b : List Byte) : (t.arrive b).taken = t.taken := by
  unfold Transport.arrive; split <;> rfl

theorem arrive_rxq (t : Transport) (b : List Byte) :
    (t.arrive b).rxq = if t.isOpen then t.rxq ++ b else t.rxq := by
  unfold Transport.arrive; split <;> rfl

/-- `RxDiscard` empties `rxq` or faults; it changes the transport and uses one answer (R69). -/
theorem rxDiscard_cases (s : State) :
    (s.primOk = true ∧
      s.rxDiscard = (.done, s.withTransport { s.tr.arrive s.answer.arrive with rxq := [] })) ∨
    (s.primOk = false ∧ ∃ q, s.rxDiscard =
      (.fault, s.withTransport { s.tr.arrive s.answer.arrive with rxq := q })) := by
  unfold State.rxDiscard
  cases h : s.primOk
  · exact .inr ⟨rfl, _, rfl⟩
  · exact .inl ⟨rfl, rfl⟩

/-- `MemWrite` appends all of `v`, or faults after an unspecified first part of it (R66). -/
theorem memWrite_cases (s : State) (v : List Byte) :
    (s.primOk = true ∧ s.memWrite v =
      (.done, s.withTransport { s.tr.arrive s.answer.arrive with txq := s.tr.txq ++ v })) ∨
    (s.primOk = false ∧ ∃ k, k ≤ v.length ∧ s.memWrite v =
      (.fault, s.withTransport { s.tr.arrive s.answer.arrive with txq := s.tr.txq ++ v.take k })) := by
  by_cases h : s.primOk
  · simp [State.memWrite, State.written, h]
  · refine .inr ⟨by simpa using h, s.written v, ?_, by simp [State.memWrite, h]⟩
    simp only [State.written, h]
    split <;> [contradiction; split <;> omega]

/-- `TxDrain` puts all of `txq` on the wire, or faults having sent some first part of it (R67). -/
theorem txDrain_cases (s : State) :
    (s.primOk = true ∧ s.txDrain =
      (.done, s.withTransport
        { s.tr.arrive s.answer.arrive with txq := [], wire := s.tr.wire ++ s.tr.txq })) ∨
    (s.primOk = false ∧ ∃ k, s.txDrain = (.fault, s.withTransport
      { s.tr.arrive s.answer.arrive with
        txq := s.tr.txq.drop k, wire := s.tr.wire ++ s.tr.txq.take k })) := by
  cases h : s.primOk
  · cases ho : s.tr.isOpen
    · refine .inr ⟨rfl, 0, ?_⟩
      simp only [State.txDrain, h, ho, Transport.arrive, List.take_zero, List.drop_zero,
        List.append_nil]
      rfl
    · refine .inr ⟨rfl, s.answer.sent, ?_⟩
      simp [State.txDrain, h, ho, Transport.transmit]
  · exact .inl ⟨rfl, by simp [State.txDrain, h, Transport.transmit]⟩

/-- `MemRead` of `N` bytes on a closed transport faults. -/
theorem memRead_closed (s : State) (N : Nat) (h : s.tr.isOpen = false) :
    s.memRead N = (.fault, s.withTransport s.tr) := by
  simp [State.memRead, h]

/-- A full `MemRead` takes the first `N` bytes in arrival order; the rest stays unread (R68). -/
theorem memRead_full (s : State) (N : Nat) (h : s.tr.isOpen = true)
    (hf : ReadIsFull s.lTimeout s.tr.rxq s.answer.arrive N) :
    s.memRead N = (.bytes ((s.tr.rxq ++ s.answer.arrive).take N), s.withTransport
      { s.tr with rxq := (s.tr.rxq ++ s.answer.arrive).drop N }) := by
  by_cases h2 : N ≤ s.tr.rxq.length
  · simp [State.memRead, h, h2, Transport.arrive, List.take_append_of_le_length]
  · obtain h3 | ⟨h3, h4⟩ := hf
    · exact absurd h3 h2
    · have h5 : N ≤ s.tr.rxq.length + s.answer.arrive.length := by simpa using h4
      have h6 : ¬ s.lTimeout = 0#16 := h3
      simp [State.memRead, h, h2, h6, h5, Transport.arrive]

/-- A short `MemRead` has taken what there was, or faults; after a zero window what arrived later stays
unread (R35, R68). -/
theorem memRead_short (s : State) (N : Nat) (h : s.tr.isOpen = true)
    (hs : ReadIsShort s.lTimeout s.tr.rxq s.answer.arrive N) :
    s.memRead N =
      (if s.answer.fault then .fault else .bytes (shortBytes s.lTimeout s.tr.rxq s.answer.arrive),
        s.withTransport { s.tr with
          rxq := leftUnread s.lTimeout s.answer.arrive }) := by
  obtain ⟨h2, h3⟩ := hs
  have h2' : ¬ N ≤ s.tr.rxq.length := by omega
  by_cases h4 : s.lTimeout = 0#16
  · simp [State.memRead, h, h2', h4, Transport.arrive, shortBytes, leftUnread]
  · have h5 : ¬ N ≤ s.tr.rxq.length + s.answer.arrive.length := by
      have := h3.resolve_left h4
      simp at this
      omega
    simp [State.memRead, h, h2', h4, h5, Transport.arrive, shortBytes, leftUnread]

/-- A read is full or short, never both. -/
theorem readIsShort_iff (timeout : BitVec 16) (hand late : List Byte) (N : Nat) :
    ReadIsShort timeout hand late N ↔ ¬ ReadIsFull timeout hand late N := by
  by_cases h : timeout = 0#16 <;> simp [ReadIsShort, ReadIsFull, h]

/-- The bytes of a short read are fewer than asked for. -/
theorem shortBytes_length (timeout : BitVec 16) (hand late : List Byte) (N : Nat)
    (h : ReadIsShort timeout hand late N) : (shortBytes timeout hand late).length < N := by
  obtain ⟨h1, h2⟩ := h
  unfold shortBytes
  split
  · exact h1
  · exact h2.resolve_left ‹_›

/-- `MemRead` returns at most `N` bytes or faults; it changes `rxq` and uses one answer (R68). -/
theorem memRead_cases (s : State) (N : Nat) :
    (∃ q, s.memRead N = (.fault, s.withTransport { s.tr with rxq := q })) ∨
    (∃ b q, b.length ≤ N ∧ s.memRead N = (.bytes b, s.withTransport { s.tr with rxq := q })) := by
  cases h : s.tr.isOpen
  · exact .inl ⟨s.tr.rxq, memRead_closed s N h⟩
  by_cases hf : ReadIsFull s.lTimeout s.tr.rxq s.answer.arrive N
  · exact .inr ⟨_, _, by simp, memRead_full s N h hf⟩
  · have hs := (readIsShort_iff _ _ _ _).2 hf
    rw [memRead_short s N h hs]
    cases s.answer.fault
    · exact .inr ⟨_, _, Nat.le_of_lt (shortBytes_length _ _ _ _ hs), rfl⟩
    · exact .inl ⟨_, rfl⟩

/-- `Open` opens the transport with any queues, or faults; either way it got its arguments (R70). -/
theorem openPort_cases (s : State) (c : OpenCall) :
    (s.answer.fault = false ∧ s.openPort c = (.done, s.withTransport
      { s.tr with
        openCall := some c, isOpen := true, rxq := s.answer.arrive, txq := s.answer.leftover })) ∨
    (s.answer.fault = true ∧ s.openPort c =
      (.fault, s.withTransport { s.tr with openCall := some c })) := by
  by_cases h : s.answer.fault <;> simp [State.openPort, h]

/-- On an open transport `RxDiscard` empties `rxq`, or faults and drops some of it (R69). -/
theorem rxDiscard_open (s : State) (h : s.tr.isOpen = true) :
    s.rxDiscard = (if s.answer.fault then .fault else .done,
      s.withTransport { s.tr with rxq := afterDiscard s.answer s.tr.rxq }) := by
  cases hf : s.answer.fault <;>
    simp [State.rxDiscard, State.primOk, Transport.arrive, afterDiscard, h, hf]

/-- The latch of an operation that ignores its payload, field by field (R21). -/
@[simp] theorem latchIgnored_op (op n : BitVec 4) (cmd : Byte) (g : Ignored) :
    (latchIgnored op n cmd g).op = op := rfl
@[simp] theorem latchIgnored_n (op n : BitVec 4) (cmd : Byte) (g : Ignored) :
    (latchIgnored op n cmd g).n = n := rfl
@[simp] theorem latchIgnored_cmd (op n : BitVec 4) (cmd : Byte) (g : Ignored) :
    (latchIgnored op n cmd g).cmd = cmd := rfl
@[simp] theorem latchIgnored_plen (op n : BitVec 4) (cmd : Byte) (g : Ignored) :
    (latchIgnored op n cmd g).plen = g.plen := rfl
@[simp] theorem latchIgnored_pay (op n : BitVec 4) (cmd : Byte) (g : Ignored) :
    (latchIgnored op n cmd g).pay = g.bytes.take g.plen.toNat := rfl

/-- What it latches fits the payload buffer (R91). -/
theorem latchIgnored_fits (op n : BitVec 4) (cmd : Byte) (g : Ignored) :
    (latchIgnored op n cmd g).pay.length ≤ Config.maxPayload := by
  have : g.plen.toNat < 256 := g.plen.isLt
  simp [Config.maxPayload]
  omega

/-- A record-form `n` that fits is latched as it is (R102). -/
theorem recordN_toNat (n : Nat) (h : n < 16) : (recordN n).toNat = n := by
  simp [recordN, h]

/-- The count of a record-form payload that fits is its length (R102). -/
theorem recordPlen_toNat (p : List Byte) (h : p.length ≤ 255) : (recordPlen p).toNat = p.length := by
  simp [recordPlen, Config.maxPayload, h]
  omega

/-- A control register reads as written, and every other one as before (R33 to R37). -/
theorem Cfg.read_write (c : Cfg) (w : CfgWrite) (r : CfgReg) :
    (c.write w).read r = if r = w.reg then w else c.read r := by
  cases w <;> cases r <;> rfl

/-- A resting sequencer makes no transition. -/
theorem run_resting {s : State} (h : s.seq.resting = true) (k : Nat) : s.run k = s := by
  cases k <;> simp [State.run, h]

theorem run_succ {s : State} (h : s.seq.resting = false) (k : Nat) :
    s.run (k + 1) = s.tick.run k := by
  simp [State.run, h]

/-- Runs compose. -/
theorem run_add (j k : Nat) (s : State) : s.run (j + k) = (s.run j).run k := by
  induction j generalizing s with
  | zero => simp [State.run]
  | succ j ih =>
    by_cases h : s.seq.resting = true
    · rw [run_resting h, run_resting h, run_resting h]
    · rw [Nat.add_right_comm, run_succ (by simpa using h), run_succ (by simpa using h), ih]

/-- Settling changes the host's call and its result only. -/
theorem settle_cases (s : State) :
    (s.busy = true ∧ s.settle = s) ∨ (s.call = none ∧ s.settle = s) ∨
    (s.busy = false ∧ ∃ p, s.call = some p ∧
      s.settle = s.returned (typedResult p s.ok s.f)) := by
  unfold State.settle
  cases hb : s.busy <;> cases hc : s.call <;> simp

/-- A descriptor presented is held, or fatal, or goes on. -/
theorem submit_cases (s : State) (w : Bool) (t : State) :
    (s.ready = false ∧ s.submit w t = s) ∨
    (s.ready = true ∧ w = false ∧ s.submit w t = s.enterFatal) ∨
    (s.ready = true ∧ w = true ∧ s.submit w t = t.pursue) := by
  unfold State.submit
  cases h : s.ready <;> cases w <;> simp

/-- Loading keeps the registers beyond the values. -/
theorem loadFile_nil (f : Vector F32 9) : loadFile f [] = f := by
  unfold loadFile
  ext i hi
  interval_cases i <;> rfl

end Sys2Proof.Machine
end

