-- ==== Sys2Proof/Laws/PerInstr.lean ====
section
/-! SUPPORT. A law of the encoder, instruction by instruction: the most specific spelling that decoding
answers has the same word as the instruction it stands for, so that no row of the opcode table is
renamed into another word (R105, R107, R114, R223, R224). -/

namespace Sys2Proof

/-- Taking a binary32 pattern apart and putting it together again (R10). -/
theorem bytesLE_le32 (b0 b1 b2 b3 : Byte) : bytesLE (le32 b0 b1 b2 b3) = [b0, b1, b2, b3] := by
  simp only [bytesLE, le32, List.cons.injEq, and_true]
  refine ⟨?_, ?_, ?_, ?_⟩ <;> ext i hi <;>
    simp only [BitVec.getElem_extractLsb', BitVec.getLsbD_append] <;>
    · have h8 : i < 8 := hi
      repeat' split
      all_goals first | omega | (rw [← BitVec.getLsbD_eq_getElem]; congr 1; omega)

/-- The words of the naming of `XFER` by its most specific row. -/
theorem encode_ofXfer (n : Nat) (cmd : Byte) (p : List Byte) :
    encode (.ofXfer n cmd p) = .desc (header 5 (BitVec.ofNat 4 n) cmd (BitVec.ofNat 8 p.length)) p := by
  unfold Instr.ofXfer
  split
  · split
    · obtain ⟨rfl, rfl⟩ := ‹_ ∧ _›
      decide
    · split
      · obtain ⟨rfl, rfl⟩ := ‹_ ∧ _›
        decide
      · rfl
  · split
    · subst ‹n = 1›
      simp [encode, packB, bytesLE_le32]
    · rfl
  · split
    · subst ‹n = 0›
      simp [encode, packC, bytesLE_le32]
    · rfl
  · rfl

/-- The words of the naming of a frame by its most specific row. -/
theorem encode_ofFrame (cmd : Byte) (p : List Byte) (chk : Byte) :
    encode (.ofFrame cmd p chk) =
      .wire (0xBB :: cmd :: BitVec.ofNat 8 p.length :: p ++ [chk]) := by
  unfold Instr.ofFrame
  split
  · split
    · obtain ⟨rfl, rfl⟩ := ‹_ ∧ _›
      decide
    · split
      · obtain ⟨rfl, rfl⟩ := ‹_ ∧ _›
        decide
      · rfl
  · simp [encode, bytesLE_le32]
  · simp [encode, bytesLE_le32]
  · rfl

namespace Laws.CanonSameWord

/-- The most specific spelling of an instruction has the instruction's word. -/
def Statement (i : Instr) : Prop := encode i.canon = encode i

theorem encode (n : BitVec 4) (cmd : Byte) (p : List Byte) : Statement (.encode n cmd p) := rfl
theorem encodeNp (n : BitVec 4) (cmd : Byte) (g : Ignored) : Statement (.encodeNp n cmd g) := rfl
theorem send (n : BitVec 4) (cmd : Byte) (p : List Byte) : Statement (.send n cmd p) := rfl
theorem recv (n : Nat) (cmd : Byte) (g : Ignored) : Statement (.recv n cmd g) := rfl
theorem xfer (n : Nat) (cmd : Byte) (p : List Byte) : Statement (.xfer n cmd p) := encode_ofXfer n cmd p
theorem connect (n : BitVec 4) (cmd : Byte) (g : Ignored) : Statement (.connect n cmd g) := rfl
theorem disconnect (n : BitVec 4) (cmd : Byte) (g : Ignored) : Statement (.disconnect n cmd g) := rfl
theorem xferA (n : Nat) (cmd : Byte) : Statement (.xferA n cmd) := encode_ofXfer n cmd []
theorem xferB (cmd pos : Byte) (val : F32) : Statement (.xferB cmd pos val) := rfl
theorem xferC (cmd : Byte) (a b c : F32) : Statement (.xferC cmd a b c) := rfl
theorem frameA (cmd chk : Byte) : Statement (.frameA cmd chk) := encode_ofFrame cmd [] chk
theorem frameB (cmd pos : Byte) (val : F32) (chk : Byte) : Statement (.frameB cmd pos val chk) := rfl
theorem frameC (cmd : Byte) (a b c : F32) (chk : Byte) : Statement (.frameC cmd a b c chk) := rfl
theorem frame (cmd : Byte) (p : List Byte) (chk : Byte) : Statement (.frame cmd p chk) := encode_ofFrame cmd p chk
theorem readQuatFrame : Statement (.readQuatFrame) := rfl
theorem readRpyFrame : Statement (.readRpyFrame) := rfl
theorem getFrameId (chk : Byte) : Statement (.getFrameId chk) := encode_ofFrame Config.probeCmd [] chk
theorem readQuat : Statement (.readQuat) := rfl
theorem readRPY : Statement (.readRPY) := rfl
theorem reservedOp (op : BitVec 4) (rest : BitVec 20) : Statement (.reservedOp op rest) := rfl

end Laws.CanonSameWord

end Sys2Proof
end

