-- ==== Sys2Proof/Laws/Registry.lean ====
section
/-! SUPPORT. The registry at the ids it lists: whatever the open order of the ids and the open places
are, a command's id carries an entry that the command admits (R220, R222). -/

namespace Sys2Proof

/-- The id at a place as a number: `0x03` to `0x34` (R106). -/
theorem idAt_toNat (k : Place) : (Config.idAt k).toNat = (Config.idOrder k).val + 3 := by
  have := (Config.idOrder k).isLt
  simp [Config.idAt]
  omega

/-- Different places have different ids. -/
theorem idAt_injective : Function.Injective Config.idAt := by
  intro j k h
  have h' := congrArg BitVec.toNat h
  rw [idAt_toNat, idAt_toNat] at h'
  exact Config.idOrder.injective (Fin.ext (by omega))

/-- The registry's entry at an id is the one of its place. -/
@[simp] theorem registry_idAt (k : Place) : registry (Config.idAt k) = some (Config.entryAt k) := by
  have h := idAt_toNat k
  have hk := (Config.idOrder k).isLt
  have h1 : Config.idAt k ≠ 0x01 := fun e => by simp [e] at h
  have h2 : Config.idAt k ≠ 0x02 := fun e => by simp [e] at h
  have h3 : Fin.ofNat 50 ((Config.idAt k).toNat - 3) = Config.idOrder k := by simp [h]
  have h4 : ¬ ((Config.idAt k).toNat < Config.cmdMin ∨ Config.cmdMax < (Config.idAt k).toNat) := by
    simp only [h, Config.cmdMin, Config.cmdMax]
    omega
  rw [registry, if_neg h4, if_neg h1, if_neg h2, h3, Equiv.symm_apply_apply]

/-- `PROBE_CMD` is of shape (a) with one value back (R108, R220). -/
theorem registry_probeCmd : registry Config.probeCmd = some (.read .one) := registry_idAt 0

/-- A command's place carries an entry that the command admits. -/
theorem admits_placeOf (c : CmdName) : c.admits (Config.entryAt (Config.placeOf c)) = true := by
  unfold Config.placeOf
  split
  · assumption
  · cases c <;> rfl

/-- The place of a vector write carries shape (c). -/
@[simp] theorem entryAt_vectorPlace (k : Nat) : Config.entryAt (Config.vectorPlace k) = .vector := by
  unfold Config.vectorPlace
  split
  · assumption
  · rfl

end Sys2Proof
end

