-- ==== Sys2Proof/Tests/Slice0.lean ====
section
/-! SUPPORT. Our own tests. Expected values come from spec/95_test_vectors.md (V…, S…, P…) and from the
rules; the `witness_` theorems show states and operands that meet all hypotheses of a statement. -/

namespace Sys2Proof.Tests

open Sys2Proof.Machine

-- One after the other: many kernel evaluations at once need a thread with its own stack each.
set_option Elab.async false

/-! ## Helpers: a small concrete state -/

/-- A primitive that returns `Done` while these bytes arrive. -/
def ans (bytes : List Byte) : Answer where
  fault := false
  arrive := bytes
  sent := 0
  leftover := []
  isOpen := true
  wire := []

/-- A primitive that returns `Fault`. -/
def flt : Answer := { ans [] with fault := true }

/-- As many quiet `Done`s. -/
def quiet (k : Nat) : List Answer := List.replicate k (ans [])

/-- Pre-clear, write and drain quiet; these bytes arrive in the read window; then quiet. -/
def reply (bytes : List Byte) : List Answer := quiet 3 ++ [ans bytes] ++ quiet 2

/-- The defaults of R48, `PROBE_CMD` chosen `0x2A` as in the vectors. -/
def cfg0 : Cfg where
  port := 1
  baud := 115200
  timeout := 100
  preclear := true
  probeEn := true
  probeAttempts := 10
  probeSpacing := 100
  probeCmd := 0x2A
  probeN := 1

/-- Idle, no session, transport closed. -/
def closed (tape : List Answer) : State :=
  { State.reset with
    cfg := cfg0, oracle := { tape := tape, draws := 0 },
    tr := { isOpen := false, txq := [], rxq := [], wire := [], taken := [], openCall := none } }

/-- Idle with a session; `rxq` holds those bytes. -/
def session (rxq : List Byte) (tape : List Answer) : State :=
  { closed tape with
    sess := true, ok := true,
    tr := { isOpen := true, txq := [], rxq := rxq, wire := [], taken := [], openCall := none } }

/-- No payload presented. -/
def noPay : Ignored where
  plen := 0
  bytes := []

/-- Pre-clear off. -/
def noPreclear (s : State) : State := { s with cfg := { s.cfg with preclear := false } }

/-- The state after an instruction. -/
def after (i : Instr) (s : State) : State :=
  match exec i s with
  | .next t => t
  | .refused _ => s

/-- The state after a step. -/
def stepped (s : State) : State :=
  match step s with
  | .next t => t
  | .refused _ => s

/-- A step's input. -/
def given (i : Input) (s : State) : State := { s with inputs := [i] }

/-! ## WellFormed: one ill-formed term per check -/

theorem test_wf_payload : (Instr.send 0 0x20 (List.replicate 256 0)).wf = false := by decide +kernel
theorem test_wf_payload_max : (Instr.send 0 0x20 (List.replicate 255 0)).wf = true := by
  decide +kernel
theorem test_wf_frame_payload : (Instr.frame 0x20 (List.replicate 256 0) 0).wf = false := by
  decide +kernel
theorem test_wf_arity : (Instr.recv 16 0 noPay).wf = false := by decide
theorem test_wf_ignored :
    (Instr.connect 0 0 ⟨1, [7, 8]⟩).wf = false ∧ (Instr.recv 1 0 ⟨1, [7, 8]⟩).wf = false ∧
    (Instr.encodeNp 0 0 ⟨1, [7]⟩).wf = true ∧ (Instr.disconnect 0 0 ⟨1, []⟩).wf = true := by decide
theorem test_wf_xfer_arity : (Instr.xfer 16 0 []).wf = false ∧ (Instr.xferA 16 0).wf = false := by
  decide
theorem test_wf_reserved : (Instr.reservedOp 7 0).wf = false ∧ (Instr.reservedOp 8 0).wf = true := by
  decide

/-! ## Decode: a word written out from the encoding of each row -/

theorem test_decode_encode :
    decode (.desc 0b0001_0000_00010000_00000101#24 [0x00, 0xCD, 0xCC, 0x4C, 0x3D]) =
      .ok (.encode 0 0x10 [0x00, 0xCD, 0xCC, 0x4C, 0x3D], []) := by decide
theorem test_decode_encodeNp :
    decode (.desc 0b0010_0000_00000001_00000111#24 []) = .ok (.encodeNp 0 0x01 ⟨7, []⟩, []) := by decide
theorem test_decode_send :
    decode (.desc 0b0011_1010_00000010_00000001#24 [0xAB]) = .ok (.send 10 0x02 [0xAB], []) := by
  decide
theorem test_decode_recv :
    decode (.desc 0b0100_0101_11110000_00000010#24 [0x0A, 0x0B, 0x0C]) =
      .ok (.recv 5 0xF0 ⟨2, [0x0A, 0x0B]⟩, [0x0C]) := by decide
theorem test_decode_xfer :
    decode (.desc 0b0101_0010_00000001_00000010#24 [0xFF, 0xFE]) =
      .ok (.xfer 2 0x01 [0xFF, 0xFE], []) := by decide
theorem test_decode_connect :
    decode (.desc 0b0110_0000_00000000_00000000#24 []) = .ok (.connect 0 0 noPay, []) := by decide
theorem test_decode_disconnect :
    decode (.desc 0b0111_0000_00000000_00000000#24 []) = .ok (.disconnect 0 0 noPay, []) := by decide
theorem test_decode_xferA :
    decode (.desc 0b0101_0011_00000001_00000000#24 []) = .ok (.xferA 3 0x01, []) := by decide
theorem test_decode_xferB :
    decode (.desc 0b0101_0001_00010000_00000101#24 [0x02, 0xCD, 0xCC, 0x4C, 0x3D]) =
      .ok (.xferB 0x10 0x02 0x3D4CCCCD, []) := by decide
theorem test_decode_xferC :
    decode (.desc 0b0101_0000_00100000_00001100#24
        [0x00, 0x00, 0x80, 0x3F, 0x00, 0x00, 0x00, 0xC0, 0x00, 0x00, 0x80, 0x3E]) =
      .ok (.xferC 0x20 0x3F800000 0xC0000000 0x3E800000, []) := by decide
theorem test_decode_frameA :
    decode (.wire [0b10111011, 0b00110100, 0b00000000, 0b11101111]) =
      .ok (.frameA 0x34 0xEF, []) := by decide
theorem test_decode_frameB :
    decode (.wire [0xBB, 0x11, 0x05, 0x03, 0x00, 0x00, 0x80, 0x3F, 0x93]) =
      .ok (.frameB 0x11 0x03 0x3F800000 0x93, []) := by decide
theorem test_decode_frameC :
    decode (.wire [0xBB, 0x21, 0x0C, 0x00, 0x00, 0x00, 0x3F, 0x00, 0x00, 0x80, 0xBE,
        0x00, 0x00, 0xC8, 0x42, 0x6F]) =
      .ok (.frameC 0x21 0x3F000000 0xBE800000 0x42C80000 0x6F, []) := by decide
theorem test_decode_frame :
    decode (.wire [0xBB, 0x30, 0x02, 0xBB, 0xBB, 0x63, 0x77]) =
      .ok (.frame 0x30 [0xBB, 0xBB] 0x63, [0x77]) := by decide
theorem test_decode_readQuatFrame :
    decode (.wire [0b10111011, 0b00000001, 0b00000000, 0b10111100]) = .ok (.readQuatFrame, []) := by
  decide
theorem test_decode_readRpyFrame :
    decode (.wire [0b10111011, 0b00000010, 0b00000000, 0b10111101]) = .ok (.readRpyFrame, []) := by
  decide
/-- `GET_FRAME_ID` is the shape (a) frame of `PROBE_CMD`, an open id: with `0x2A` chosen its bytes are
those of a `FRAME_A` (log entry 11). -/
theorem test_decode_getFrameId :
    decode (.wire [0xBB, 0x2A, 0x00, 0xE5]) = .ok (.frameA 0x2A 0xE5, []) ∧
    ∀ chk, encode (.getFrameId chk) = encode (.frameA Config.probeCmd chk) := by
  exact ⟨by decide, fun _ => rfl⟩
theorem test_decode_readQuat : decode (.desc 0b010101000000000100000000#24 []) = .ok (.readQuat, []) := by
  decide
theorem test_decode_readRPY : decode (.desc 0b010100110000001000000000#24 []) = .ok (.readRPY, []) := by
  decide
theorem test_decode_reservedOp :
    decode (.desc 0b0000_0000_00000000_00000001#24 []) = .ok (.reservedOp 0 1, []) ∧
    decode (.desc 0b1111_0000_00000000_00000000#24 []) = .ok (.reservedOp 15 0, []) := by decide
theorem test_decode_refuses :
    decode (.desc 0x100002 [0x01]) = .error .truncatedPayload ∧
    decode (.wire [0xBA, 0x01, 0x00, 0xBC]) = .error .noStartMarker ∧
    decode (.wire [0xBB, 0x01, 0x01, 0xBC]) = .error .truncatedFrame := by decide

/-! ## Instructions -/

/-- V10. -/
theorem test_encode :
    (after (.encode 0 0x10 [0x00, 0xCD, 0xCC, 0x4C, 0x3D]) (closed [])).fb =
      [0xBB, 0x10, 0x05, 0x00, 0xCD, 0xCC, 0x4C, 0x3D, 0xF2] := by decide +kernel
/-- V17. -/
theorem test_encode_longest :
    let t := after (.encode 0 0x44 (List.replicate 255 0xFF)) (closed [])
    t.flen = 259 ∧ t.csum = 0xFF ∧ t.ok = true := by decide +kernel
/-- V4. -/
theorem test_encodeNp : (after (.encodeNp 0 0x45 noPay) (closed [])).fb = [0xBB, 0x45, 0x00, 0x00] := by
  decide +kernel
/-- V9, and R21: the payload that `ENCODE_NP` ignores is latched. -/
theorem test_encodeNp_plen :
    let t := after (.encodeNp 0 0x01 ⟨2, [0xAA, 0xBB]⟩) (closed [])
    t.fb = [0xBB, 0x01, 0x00, 0xBC] ∧ t.d.plen = 2 ∧ t.d.pay = [0xAA, 0xBB] := by decide +kernel
/-- V51, P5. -/
theorem test_send :
    let t := after (.send 0 0x02 []) (session [0x99] (quiet 3))
    t.ok = true ∧ t.tr.wire = [0xBB, 0x02, 0x00, 0xBD] ∧ t.tr.rxq = [] := by decide +kernel
/-- S4. -/
theorem test_recv_short :
    let t := after (.recv 3 0 noPay) (session [] [ans [0x00, 0x00, 0x80, 0x3F, 0x00], ans [0x11, 0x22]])
    t.ok = false ∧ t.err = .timeout ∧ t.f = zeroFile ∧ t.rxCnt = 5 ∧ t.tr.rxq = [] := by
  decide +kernel
/-- V52. -/
theorem test_recv :
    let t := after (.recv 3 0 noPay) (session
      [0x03, 0x00, 0x80, 0x3F, 0xF9, 0xFF, 0x7F, 0xBF, 0xDE, 0xD6, 0xFC, 0x3D] (quiet 1))
    t.ok = true ∧ t.f = #v[0x3F800003, 0xBF7FFFF9, 0x3DFCD6DE, 0, 0, 0, 0, 0, 0] := by decide +kernel
/-- V56: the misaligned read without pre-clear. -/
theorem test_xfer_misaligned :
    let t := after (.xfer 4 0x01 []) (noPreclear (session [0xAA] (quiet 2 ++
      [ans ([0x00, 0x00, 0x80, 0x3F] ++ List.replicate 12 0x00)])))
    t.f = #v[0x800000AA, 0x0000003F, 0, 0, 0, 0, 0, 0, 0] ∧ t.tr.rxq = [0x00] := by decide +kernel
/-- V43: no partial decode. -/
theorem test_xfer_short :
    let t := after (.xfer 4 0x01 []) (session [] (reply (List.replicate 15 0x3F)))
    t.ok = false ∧ t.err = .timeout ∧ t.f = zeroFile := by decide +kernel
/-- V71. -/
theorem test_connect :
    let t := after (.connect 0 0 noPay) (closed (quiet 1 ++ quiet 5 ++ quiet 5 ++
      reply [0x00, 0x00, 0x40, 0x40]))
    t.ok = true ∧ t.sess = true ∧ t.attempt = 3 ∧ t.f[0] = 0x40400000 := by decide +kernel
/-- R33, R34, R35, R70: the port, the baud rate and the timeout reach `Open` unchanged. -/
theorem test_connect_open :
    let s := closed [flt]
    (after (.connect 0 0 noPay) { s with cfg := { cfg0 with port := 9, baud := 9600, timeout := 7 } }).tr =
      { s.tr with openCall := some { port := 9, baud := 9600, timeout := 7 } } := by decide +kernel
/-- V75. -/
theorem test_connect_fails :
    let s := closed (quiet 1 ++ [ans [], flt] ++ quiet 3 ++ [ans [0x00]] ++ quiet 2)
    let t := after (.connect 0 0 noPay) { s with cfg := { cfg0 with probeAttempts := 2 } }
    t.ok = false ∧ t.err = .connectFailed ∧ t.sess = false ∧ t.attempt = 2 := by decide +kernel
/-- V77. -/
theorem test_disconnect :
    let t := after (.disconnect 0 0 noPay) (session [] [flt])
    t.ok = true ∧ t.sess = false := by decide +kernel
/-- V78. -/
theorem test_disconnect_idle :
    let t := after (.disconnect 0 0 noPay) (closed [])
    t.ok = true ∧ t.sess = false ∧ t.tr = (closed []).tr := by decide +kernel
/-- P1. -/
theorem test_xferA :
    (after (.xferA 4 0x01) (session [] (reply
      [0xF3, 0x04, 0x35, 0x3F, 0, 0, 0, 0, 0, 0, 0, 0, 0xF3, 0x04, 0x35, 0x3F]))).f =
      #v[0x3F3504F3, 0, 0, 0x3F3504F3, 0, 0, 0, 0, 0] := by decide +kernel
/-- P3, first exchange. -/
theorem test_xferB :
    let t := after (.xferB 0x10 0x00 0x3D4CCCCD) (session [] (reply [0x00, 0x00, 0x80, 0x3F]))
    t.tr.wire = [0xBB, 0x10, 0x05, 0x00, 0xCD, 0xCC, 0x4C, 0x3D, 0xF2] ∧ t.f[0] = 0x3F800000 := by
  decide +kernel
/-- P3, second exchange. -/
theorem test_xferC :
    let t := after (.xferC 0x20 0x3F800000 0xC0000000 0x3E800000) (session [] (quiet 3))
    t.ok = true ∧ t.tr.wire = [0xBB, 0x20, 0x0C, 0x00, 0x00, 0x80, 0x3F, 0x00, 0x00, 0x00, 0xC0,
      0x00, 0x00, 0x80, 0x3E, 0x24] := by decide +kernel
/-- R72, R96. -/
theorem test_frameA :
    let t := after (.frameA 0x34 0xEF) (session [0x01] [ans [0x02]])
    t.tr.taken = [[0xBB, 0x34, 0x00, 0xEF]] ∧ t.tr.rxq = [0x01, 0x02] := by decide +kernel
/-- V12. -/
theorem test_frameB :
    (after (.frameB 0x11 0x03 0x3F800000 0x93) (session [] (quiet 1))).tr.taken =
      [[0xBB, 0x11, 0x05, 0x03, 0x00, 0x00, 0x80, 0x3F, 0x93]] := by decide +kernel
/-- V14. -/
theorem test_frameC :
    (after (.frameC 0x21 0x3F000000 0xBE800000 0x42C80000 0x6F) (session [] (quiet 1))).tr.taken =
      [[0xBB, 0x21, 0x0C, 0x00, 0x00, 0x00, 0x3F, 0x00, 0x00, 0x80, 0xBE, 0x00, 0x00, 0xC8, 0x42,
        0x6F]] := by decide +kernel
/-- V16. -/
theorem test_frame :
    (after (.frame 0x30 [0xBB, 0xBB] 0x63) (session [] (quiet 1))).tr.taken =
      [[0xBB, 0x30, 0x02, 0xBB, 0xBB, 0x63]] := by decide +kernel
/-- R107. -/
theorem test_readQuatFrame :
    (after .readQuatFrame (session [] (quiet 1))).tr.taken = [[0xBB, 0x01, 0x00, 0xBC]] := by
  decide +kernel
/-- R107. -/
theorem test_readRpyFrame :
    (after .readRpyFrame (session [] (quiet 1))).tr.taken = [[0xBB, 0x02, 0x00, 0xBD]] := by
  decide +kernel
/-- R108: the block keeps its state. -/
theorem test_getFrameId :
    after (.getFrameId 0xE5) (closed (quiet 1)) =
      { closed [] with
        tr := { (closed []).tr with taken := [[0xBB, Config.probeCmd, 0x00, 0xE5]] } } := by rfl
/-- P1: the host's numbers, before their delivery in an open number format. -/
theorem test_readQuat :
    let t := after .readQuat (session [] (reply
      [0xF3, 0x04, 0x35, 0x3F, 0, 0, 0, 0, 0, 0, 0, 0, 0xF3, 0x04, 0x35, 0x3F]))
    t.ret.map TypedResult.ok = some true ∧ (t.f.toList.take 4).map round6 =
      [.decimal 707107 6, .decimal 0 6, .decimal 0 6, .decimal 707107 6] := by decide +kernel
/-- P2: the host's two results. -/
theorem test_readRPY :
    let t := after .readRPY (session [] (reply
      [0x03, 0x00, 0x80, 0x3F, 0xF9, 0xFF, 0x7F, 0xBF, 0xDE, 0xD6, 0xFC, 0x3D]))
    let u := after .readRPY (session [] (reply [0x03, 0x00, 0x80, 0x3F, 0xF9, 0xFF]))
    (t.ret.map TypedResult.ok = some true ∧ (t.f.toList.take 3).map round6 =
      [.decimal 1000000 6, .decimal (-1000000) 6, .decimal 123457 6]) ∧
    (u.ret.map TypedResult.ok = some false ∧ u.f = zeroFile) := by decide +kernel
/-- V58. -/
theorem test_reservedOp :
    stepped (given (.packed 0x800000 []) (closed [])) = closed [] := by decide +kernel

/-! ## Machine -/

/-- V18: the record form of `ENCODE` with 256 payload bytes. -/
theorem test_record_fatal :
    let t := stepped (given (.record ⟨1, 0, 0x44, List.replicate 256 0xFF⟩) (closed []))
    t.fatal = true ∧ t.seq = .fatal ∧ t.busy = true ∧ t.done = false ∧ t.fb = [] := by decide +kernel
/-- V55: the programming error. -/
theorem test_fatal :
    let t := after (.recv 10 0 noPay) (session [] [])
    t.fatal = true ∧ t.ok = false ∧ t.err = .programmingError ∧ t.seq.code = 15 ∧ t.busy = true ∧
      t.done = false ∧ t.sess = true := by decide +kernel
/-- V86: reset in `S_RXWAIT`; the frame already sent stays sent. -/
theorem test_reset_in_flight :
    let s := { session [] (quiet 9) with inputs := [.packed 0x540100 [], .reset], burst := some 4 }
    (stepped s).seq = .rxWait ∧ (stepped (stepped s)).seq = .idle ∧
      (stepped (stepped s)).done = false ∧
      (stepped (stepped s)).tr.wire = [0xBB, 0x01, 0x00, 0xBC] := by decide +kernel
/-- V92, V93, V94, V97. -/
theorem test_rounding :
    round6 0x3DFCD6DE = .decimal 123457 6 ∧ round6 0x3C000000 = .decimal 7812 6 ∧
    round6 0x3CC00000 = .decimal 23438 6 ∧ round3 0x3D800000 = .decimal 62 3 := by decide +kernel
/-- V102, V105; V107 to V110; `trunc` of 127.5 (above the range) and of 127.0. -/
theorem test_trunc_ack :
    truncWithin (-128) 127 0xC039999A = .int (-2) ∧ truncWithin (-128) 127 0x7FC00000 = .noValue ∧
    truncWithin (-128) 127 0x42FF0000 = .noValue ∧ truncWithin (-128) 127 0x42FE0000 = .int 127 ∧
    ackOf 0x3F000000 = false ∧ ackOf 0x3F000001 = true ∧ ackOf 0x3FBFFFFF = true ∧
    ackOf 0x3FC00000 = false := by decide +kernel
/-- R7, R227: -1.0, 7.8125 and the infinity below in binary64, by hand conversion. -/
theorem test_binary64 :
    toBinary64 (.decimal (-1000000) 6) = .binary64 0xBFF0000000000000 ∧
    toBinary64 (.decimal 7812500 6) = .binary64 0x401F400000000000 ∧
    toBinary64 (.pattern 0xFF800000) = .binary64 0xFFF0000000000000 := by decide +kernel

/-! ## Witnesses: states and operands that meet all hypotheses of a statement -/

/-- The longest payload. -/
def p255 : List Byte := List.replicate 255 0xFF

/-- In `S_RXWAIT` of `readQuat`, looked at after four transitions. -/
def midway : State :=
  stepped { session [] (quiet 9) with inputs := [.packed 0x540100 []], burst := some 4 }

/-- In `S_OPEN` of a `CONNECT` without probe. -/
def midConnect : State :=
  { stepped { closed (quiet 9) with
      cfg := { cfg0 with probeEn := false, timeout := 7 },
      inputs := [.packed 0x600000 []], burst := some 0 } with
    burst := none }

/-- After a programming error, with an input to come. -/
def fatalState : State :=
  { after (.recv 10 0 noPay) (session [] []) with inputs := [.cfg (.baud 9600), .packed 0x200100 []] }

theorem inv_session : Inv (session [] (quiet 9)) := by
  constructor
  all_goals first
    | exact .inl ⟨rfl, rfl⟩
    | decide +kernel
    | (unfold Seq.admits; decide +kernel)

theorem inv_midway : Inv midway := by
  constructor
  all_goals first
    | exact .inr ⟨0x01, [], by decide, by decide +kernel, by decide +kernel⟩
    | decide +kernel
    | (unfold Seq.admits; decide +kernel)

theorem inv_midConnect : Inv midConnect := by
  constructor
  all_goals first
    | exact .inl ⟨rfl, rfl⟩
    | decide +kernel
    | (unfold Seq.admits; decide +kernel)

theorem inv_fatal : Inv fatalState := by
  constructor
  all_goals first
    | exact .inl ⟨rfl, rfl⟩
    | decide +kernel
    | (unfold Seq.admits; decide +kernel)

theorem witness_DecodeEncodeRoundTrip :
    (Instr.xfer 15 0xFF p255).wf = true ∧ (Instr.recv 15 0xFF ⟨0xFF, p255⟩).wf = true ∧
    (Instr.reservedOp 0 0).wf = true ∧ (Instr.reservedOp 15 0xFFFFF).wf = true := by decide +kernel

theorem witness_EncodeInvertsDecode :
    decode (.desc 0x510001 [0xAB, 0xCD]) = .ok (.xfer 1 0 [0xAB], [0xCD]) ∧
    decode (.wire [0xBB, 0x00, 0x00, 0xFF, 0x01]) = .ok (.frameA 0x00 0xFF, [0x01]) := by decide

theorem witness_StepRunsPresentedDescriptor :
    ((given (.packed 0x2AFFFF [1]) (closed [])).ready = true ∧
      decode (.desc 0x2AFFFF [1]) = .ok (.encodeNp 10 0xFF ⟨0xFF, [1]⟩, [])) ∧
    (given (.record ⟨5, 16, 0xFF, p255⟩) (closed [])).ready = true ∧
    (15 < 16 ∧ p255.length ≤ 255 ∧ 255 < (0x00 :: p255).length ∧ 9 < 10) ∧
    ((8 : BitVec 4).toNat = 8 ∧ (15 : BitVec 4).toNat = 15) ∧
    (1 : BitVec 4) ∈ [(1 : BitVec 4), 3, 5] ∧ (4 : BitVec 4) ∈ [(4 : BitVec 4), 5] := by
  decide +kernel

theorem witness_StepRunsWireFrame :
    let s := given .deviceTurn
      { closed [] with tr := { (closed []).tr with wire := [0xBB, 1, 0, 0xBC, 0xBB] } }
    s.inputs = [.deviceTurn] ∧ decode (.wire s.tr.wire) = .ok (.readQuatFrame, [0xBB]) := by
  decide

theorem witness_FetchWordRunsFirst :
    decodeTableWord 24 0x6FFFFF = some (.connect 15 0xFF ⟨0xFF, List.replicate 255 0⟩) ∧
    decodeTableWord 8 0xBB = some (.frameA 0x00 0x00) ∧
    decodeTableWord 32 0xBBFF00BA = some (.frameA 0xFF 0xBA) := by decide +kernel

theorem witness_EncodeWritesFrame :
    ([] : List Byte).length ≤ 255 ∧ p255.length ≤ 255 ∧ (closed []).AtRest := by decide +kernel

theorem witness_EncodeNpWritesFrame : (session [0x01] []).AtRest := by decide

theorem witness_HostReadsEncodedFrame :
    p255.length ≤ 255 ∧ (closed []).AtRest ∧ (258 : Fin 259).val < 4 + p255.length := by
  decide +kernel

theorem witness_FrameLengthStartChecksum : ([] : List Byte).length ≤ 255 ∧ p255.length ≤ 255 := by
  decide +kernel

theorem witness_ChecksumIsOrderFreeSum : [(0xBB : Byte), 0x45, 0xFF].Perm [0xFF, 0xBB, 0x45] := by
  decide

theorem witness_EncodeFloatsUnpack :
    ([] : List Byte).length % 4 = 0 ∧ [(0x01 : Byte), 0x00, 0xC0, 0x7F].length % 4 = 0 := by decide

theorem witness_SendTransmitsFrame :
    let s := session [0x99] (quiet 3)
    let u := noPreclear (session [0x99] (quiet 2))
    p255.length ≤ 255 ∧ (s.AtRest ∧ s.sess = true ∧ s.SendGoes) ∧
      (u.AtRest ∧ u.sess = true ∧ u.SendGoes) := by decide +kernel

/-- Arity 1 from bytes at hand in a zero window; arity 9 from bytes that arrive in the window. -/
theorem witness_RecvDecodesReply :
    let s := { session [1, 2, 3, 4, 5] (quiet 1) with lTimeout := 0 }
    let u := session [1] [ans (List.replicate 35 0x3F)]
    (s.AtRest ∧ s.sess = true ∧ s.tr.isOpen = true ∧
      ReadIsFull s.lTimeout s.tr.rxq (s.oracle.ahead 0).arrive (4 * 1)) ∧
    (u.AtRest ∧ u.sess = true ∧ u.tr.isOpen = true ∧
      ReadIsFull u.lTimeout u.tr.rxq (u.oracle.ahead 0).arrive (4 * 9)) := by decide +kernel

theorem witness_RecvZeroReadsNothing :
    (session [0x01, 0x02] []).AtRest ∧ (session [0x01, 0x02] []).sess = true := by decide

/-- Arity 1 in a zero window with the reply late; arity 9 with one byte missing. -/
theorem witness_RecvShortIsTimeout :
    let s := { session [1, 2, 3] [ans [4, 5], flt] with lTimeout := 0 }
    let u := session [] [ans (List.replicate 35 0x3F), ans []]
    (s.AtRest ∧ s.sess = true ∧ s.tr.isOpen = true ∧
      ReadIsShort s.lTimeout s.tr.rxq (s.oracle.ahead 0).arrive (4 * 1) ∧
      (s.oracle.ahead 0).fault = false) ∧
    (u.AtRest ∧ u.sess = true ∧ u.tr.isOpen = true ∧
      ReadIsShort u.lTimeout u.tr.rxq (u.oracle.ahead 0).arrive (4 * 9) ∧
      (u.oracle.ahead 0).fault = false) := by decide +kernel

theorem witness_RecvFaultIsReported :
    let s := { session [1, 2, 3, 4] (quiet 1) with tr := (closed []).tr }
    let u := session [1, 2, 3] [flt]
    (s.AtRest ∧ s.sess = true ∧ s.tr.isOpen = false) ∧
    (u.AtRest ∧ u.sess = true ∧ u.tr.isOpen = true ∧
      ReadIsShort u.lTimeout u.tr.rxq (u.oracle.ahead 0).arrive (4 * 1) ∧
      (u.oracle.ahead 0).fault = true) := by decide +kernel

/-- The first and the last arity. -/
theorem witness_XferReadsReply :
    let s := session [0x99] (reply (List.replicate 4 0x3F))
    let u := session [] (reply (List.replicate 36 0x3F))
    (s.AtRest ∧ s.sess = true ∧ s.SendGoes ∧ ReadIsFull s.lTimeout s.atHand s.inWindow (4 * 1)) ∧
    (u.AtRest ∧ u.sess = true ∧ u.SendGoes ∧ ReadIsFull u.lTimeout u.atHand u.inWindow (4 * 9) ∧
      p255.length ≤ 255) := by decide +kernel

theorem witness_XferWithoutReply :
    let s := session [] (quiet 3)
    p255.length ≤ 255 ∧ s.AtRest ∧ s.sess = true ∧ s.SendGoes := by decide +kernel

/-- One byte missing at arity 1, the resync faulting; nothing taken in a zero window at arity 9. -/
theorem witness_XferShortIsTimeout :
    let s := session [] (quiet 3 ++ [ans [0, 0, 0], flt])
    let u := { session [] (reply (List.replicate 36 0)) with lTimeout := 0 }
    (s.AtRest ∧ s.sess = true ∧ s.SendGoes ∧ ReadIsShort s.lTimeout s.atHand s.inWindow (4 * 1) ∧
      (s.oracle.ahead s.sendAnswers).fault = false) ∧
    (u.AtRest ∧ u.sess = true ∧ u.SendGoes ∧ ReadIsShort u.lTimeout u.atHand u.inWindow (4 * 9) ∧
      (u.oracle.ahead u.sendAnswers).fault = false) := by decide +kernel

/-- Clause by clause: arities 1 and 9, arity 0, shape (b), shape (c). -/
theorem witness_XferPseudoFormsComplete :
    let s := session [] (reply (List.replicate 36 0x3F))
    let u := session [] (quiet 3)
    (s.AtRest ∧ s.sess = true ∧ s.SendGoes ∧ ReadIsFull s.lTimeout s.atHand s.inWindow (4 * 1) ∧
      ReadIsFull s.lTimeout s.atHand s.inWindow (4 * 9)) ∧
    (u.AtRest ∧ u.sess = true ∧ u.SendGoes) ∧
    ReadIsFull s.lTimeout s.atHand s.inWindow 4 := by decide +kernel

/-- The same for `SEND`, which reads nothing. -/
theorem witness_SendStopsAtTheFault :
    let s1 := session [] [flt]
    let s2 := session [] (quiet 1 ++ [{ flt with sent := 2 }])
    let s3 := noPreclear (session [] (quiet 1 ++ [flt]))
    let s5 := { session [] (quiet 3) with tr := (closed []).tr }
    (s1.AtRest ∧ s1.sess = true ∧ s1.tr.isOpen = true ∧ s1.cfg.preclear = true ∧
      (s1.oracle.ahead 0).fault = true) ∧
    (s2.AtRest ∧ s2.sess = true ∧ s2.tr.isOpen = true ∧
      (s2.cfg.preclear = true → (s2.oracle.ahead 0).fault = false) ∧
      (s2.oracle.ahead s2.beforeWrite).fault = true) ∧
    (s3.AtRest ∧ s3.sess = true ∧ s3.tr.isOpen = true ∧ s3.cfg.preclear = false ∧
      (s3.oracle.ahead s3.beforeWrite).fault = false ∧
      (s3.oracle.ahead (s3.beforeWrite + 1)).fault = true) ∧
    (s5.AtRest ∧ s5.sess = true ∧ s5.tr.isOpen = false ∧ p255.length ≤ 255) := by decide +kernel

/-- A fault at pre-clear, at write, at drain (with and without pre-clear), at read; a transport that is closed. -/
theorem witness_XferStopsAtTheFault :
    let s1 := session [] [flt]
    let s2 := session [] (quiet 1 ++ [{ flt with sent := 2 }])
    let s3 := noPreclear (session [] (quiet 1 ++ [flt]))
    let s4 := session [] (quiet 3 ++ [flt])
    let s5 := { session [] (quiet 3) with tr := (closed []).tr }
    (s1.AtRest ∧ s1.sess = true ∧ s1.tr.isOpen = true ∧ s1.cfg.preclear = true ∧
      (s1.oracle.ahead 0).fault = true) ∧
    (s2.AtRest ∧ s2.sess = true ∧ s2.tr.isOpen = true ∧
      (s2.cfg.preclear = true → (s2.oracle.ahead 0).fault = false) ∧
      (s2.oracle.ahead s2.beforeWrite).fault = true) ∧
    (s3.AtRest ∧ s3.sess = true ∧ s3.tr.isOpen = true ∧ s3.cfg.preclear = false ∧
      (s3.oracle.ahead s3.beforeWrite).fault = false ∧
      (s3.oracle.ahead (s3.beforeWrite + 1)).fault = true) ∧
    (s4.AtRest ∧ s4.sess = true ∧ s4.tr.isOpen = true ∧ s4.SendGoes ∧
      ReadIsShort s4.lTimeout s4.atHand s4.inWindow (4 * 9) ∧
      (s4.oracle.ahead s4.sendAnswers).fault = true) ∧
    (s5.AtRest ∧ s5.sess = true ∧ s5.tr.isOpen = false ∧ p255.length ≤ 255) := by decide +kernel

theorem witness_StaleBytesNeverRead :
    let s := session [0xAA] (quiet 5)
    p255.length ≤ 255 ∧ s.AtRest ∧ s.sess = true ∧ s.cfg.preclear = true ∧ s.tr.isOpen = true ∧
      (s.oracle.ahead 0).fault = false := by decide +kernel

theorem witness_NoSessionIsUnavailable :
    (closed []).AtRest ∧ (closed []).sess = false ∧ p255.length ≤ 255 := by decide +kernel

theorem witness_IllFormedDescriptorIsFatal :
    (closed []).ready = true ∧ (session [] []).ready = true ∧ 255 < (0x00 :: p255).length := by
  decide +kernel

theorem witness_NotAcceptedWhileBusyOrFatal :
    midway.busy = true ∧ midway.fatal = false ∧ fatalState.fatal = true ∧
      (Instr.encodeNp 0 0 noPay).isDescriptor = true := by decide +kernel

theorem witness_BusyStepHoldsDescriptor :
    (given (.packed 0x700000 []) midway).busy = true ∧
    (given (.record ⟨7, 0, 0, []⟩) midway).busy = true ∧
    (given (.call .readQuat) midway).busy = true := by decide +kernel

/-- The reserved codes at both ends of their ranges. -/
theorem witness_ReservedOpIsRefused :
    let s (h : Header) := given (.packed h [0x01]) (closed [])
    (s 0x0FFFFF).ready = true ∧ (0x0FFFFF : Header).toNat / 2 ^ 20 = 0 ∧
    (s 0x800000).ready = true ∧ 8 ≤ (0x800000 : Header).toNat / 2 ^ 20 ∧
    8 ≤ (0xFFFFFF : Header).toNat / 2 ^ 20 := by decide

theorem witness_FatalIsAbsorbing :
    Inv fatalState ∧ fatalState.fatal = true ∧ fatalState.inputs.head? ≠ some .reset ∧
      ∃ t, step fatalState = .next t :=
  ⟨inv_fatal, by decide +kernel, by decide +kernel, _, rfl⟩

/-- Each operation answers a next state from a state at rest. -/
theorem witness_OperationOutcomes :
    let s := session [] (quiet 99)
    s.AtRest ∧ (∃ t, exec (.encode 0 1 p255) s = .next t) ∧ (∃ t, exec (.encodeNp 0 1 noPay) s = .next t) ∧
    (∃ t, exec (.send 0 1 p255) s = .next t) ∧ (∃ t, exec (.recv 9 0 noPay) s = .next t) ∧
    (∃ t, exec (.recv 0 0 noPay) s = .next t) ∧ (∃ t, exec (.recv 10 0 noPay) s = .next t) ∧
    (∃ t, exec (.xfer 9 1 []) s = .next t) ∧ (∃ t, exec (.connect 0 0 noPay) s = .next t) ∧
    (∃ t, exec (.disconnect 0 0 noPay) s = .next t) :=
  ⟨by decide, ⟨_, rfl⟩, ⟨_, rfl⟩, ⟨_, rfl⟩, ⟨_, rfl⟩, ⟨_, rfl⟩, ⟨_, rfl⟩, ⟨_, rfl⟩, ⟨_, rfl⟩, ⟨_, rfl⟩⟩

theorem witness_ConnectWithoutProbe :
    let s := { closed (quiet 1) with cfg := { cfg0 with probeEn := false } }
    s.AtRest ∧ s.sess = false ∧ s.cfg.probeEn = false ∧ (s.oracle.ahead 0).fault = false := by decide

theorem witness_ConnectOpenFaults :
    let s := closed [flt]
    s.AtRest ∧ s.sess = false ∧ (s.oracle.ahead 0).fault = true := by decide

/-- The probe arity at both ends and 0, and a leftover byte in `rxq` after `Open`. -/
theorem witness_ConnectFirstProbeAnswered :
    let s (n : BitVec 4) := { closed (ans [0x55] :: reply (List.replicate 36 0)) with
      cfg := { cfg0 with probeN := n } }
    ((s 1).AtRest ∧ (s 1).sess = false ∧ (s 1).cfg.probeEn = true ∧ ((s 1).oracle.ahead 0).fault = false ∧
      1 ≤ (s 1).cfg.probeN.toNat ∧ (s 1).cfg.probeN.toNat ≤ 9 ∧ (s 1).opened.SendGoes ∧
      ReadIsFull (s 1).cfg.timeout (s 1).opened.atHand (s 1).opened.inWindow
        (4 * (s 1).cfg.probeN.toNat)) ∧
    ((s 9).cfg.probeN.toNat ≤ 9 ∧ (s 9).opened.SendGoes ∧
      ReadIsFull (s 9).cfg.timeout (s 9).opened.atHand (s 9).opened.inWindow
        (4 * (s 9).cfg.probeN.toNat)) ∧
    ((s 0).AtRest ∧ (s 0).opened.SendGoes ∧ (s 0).cfg.probeN = 0) := by decide +kernel

/-- The second attempt is answered, and the last of 15 with no pre-clear. -/
theorem witness_ConnectLaterProbeAnswered :
    let s := closed (quiet 6 ++ reply [1, 2, 3, 4])
    let u := noPreclear { closed (quiet 57 ++ quiet 2 ++ [ans (List.replicate 36 1)]) with
      cfg := { cfg0 with probeAttempts := 15, probeN := 9 } }
    (s.AtRest ∧ s.sess = false ∧ s.cfg.probeEn = true ∧ 1 ≤ s.cfg.probeN.toNat ∧
      s.cfg.probeN.toNat ≤ 9 ∧ 1 < s.probeBound ∧
      (∀ k < 1 + 1 * (s.beforeWrite + 4),
        (s.oracle.ahead k).fault = false ∧ (s.oracle.ahead k).arrive = []) ∧
      (s.afterSilentProbes 1).SendGoes ∧
      ReadIsFull s.cfg.timeout (s.afterSilentProbes 1).atHand (s.afterSilentProbes 1).inWindow
        (4 * s.cfg.probeN.toNat)) ∧
    (u.AtRest ∧ u.sess = false ∧ u.cfg.probeEn = true ∧ 1 ≤ u.cfg.probeN.toNat ∧
      u.cfg.probeN.toNat ≤ 9 ∧ 14 < u.probeBound ∧
      (∀ k < 1 + 14 * (u.beforeWrite + 4),
        (u.oracle.ahead k).fault = false ∧ (u.oracle.ahead k).arrive = []) ∧
      (u.afterSilentProbes 14).SendGoes ∧
      ReadIsFull u.cfg.timeout (u.afterSilentProbes 14).atHand (u.afterSilentProbes 14).inWindow
        (4 * u.cfg.probeN.toNat)) := by decide +kernel

/-- One attempt for `CFG_PROBE_ATTEMPTS` 0, and the largest bound 15, with no pre-clear. -/
theorem witness_ConnectExhaustsProbes :
    let s := { closed (quiet 7) with cfg := { cfg0 with probeAttempts := 0 } }
    let u := noPreclear { closed (quiet 62) with cfg := { cfg0 with probeAttempts := 15, probeN := 9 } }
    (s.AtRest ∧ s.sess = false ∧ s.cfg.probeEn = true ∧ 1 ≤ s.cfg.probeN.toNat ∧
      ∀ k < 2 + s.probeBound * (s.beforeWrite + 4),
        (s.oracle.ahead k).fault = false ∧ (s.oracle.ahead k).arrive = []) ∧
    (u.AtRest ∧ u.sess = false ∧ u.cfg.probeEn = true ∧ u.cfg.probeN.toNat ≤ 9 ∧
      ∀ k < 2 + u.probeBound * (u.beforeWrite + 4),
        (u.oracle.ahead k).fault = false ∧ (u.oracle.ahead k).arrive = []) := by decide +kernel

theorem witness_ConnectOutcome : (closed [flt]).AtRest ∧ (session [] (quiet 99)).AtRest := by decide

theorem witness_ConnectClosesOldSession :
    (session [0x01] (quiet 9)).AtRest ∧ (session [0x01] (quiet 9)).sess = true := by decide

theorem witness_DisconnectEndsSession :
    ((session [] [flt]).AtRest ∧ (session [] [flt]).sess = true) ∧
    ((closed []).AtRest ∧ (closed []).sess = false) := by decide

theorem witness_OnlyConnectMakesSession :
    Inv midConnect ∧ midConnect.sess = false ∧
      ∃ t, step midConnect = .next t ∧ t.sess = true ∧ t.d.op = 6 :=
  ⟨inv_midConnect, by decide +kernel, _, rfl, by decide +kernel, by decide +kernel⟩

theorem witness_TypedReadsReturnValues :
    let s := session [] (reply (List.replicate 16 0x3F))
    s.AtRest ∧ s.sess = true ∧ s.SendGoes ∧ ReadIsFull s.lTimeout s.atHand s.inWindow 16 ∧
      ReadIsFull s.lTimeout s.atHand s.inWindow 12 := by decide +kernel

theorem witness_TypedReadsFailWithZeros :
    let s := session [] (reply (List.replicate 11 0x3F))
    s.AtRest ∧ s.sess = true ∧ s.SendGoes ∧ (s.oracle.ahead s.sendAnswers).fault = false ∧
      ReadIsShort s.lTimeout s.atHand s.inWindow 16 ∧
      ReadIsShort s.lTimeout s.atHand s.inWindow 12 := by decide +kernel

theorem witness_TypedCallIsOneExchange :
    (given (.call .readQuat) (session [] (quiet 9))).ready = true ∧
    (given (.call (.writeOffset 1 2 3)) (session [] (quiet 9))).ready = true := by decide

theorem witness_RoundHalfEvenIsNearest :
    2 * (roundHalfEven 15 10 * 10) = 2 * 15 + 10 ∧ 2 * 25 = 2 * (roundHalfEven 25 10 * 10) + 10 ∧
    f32Value 0x3C000000 = some { neg := false, mant := 2 ^ 23, up := 0, down := 30 } ∧
    f32Value 0xFF800000 = none ∧
    f32Value 0x80000001 = some { neg := true, mant := 1, up := 0, down := 149 } ∧
    f32Value 0x7F7FFFFF = some { neg := false, mant := 0xFFFFFF, up := 104, down := 0 } ∧
    (0 : Int).natAbs < 2 ^ 150 ∧ (1 - 2 ^ 150 : Int).natAbs < 2 ^ 150 ∧
    binary64Scaled 0x8000000000000001 = some (-1) ∧
    f32Value 0x7F800001 = none ∧ (0x7F800001 : F32).toNat % 2 ^ 23 ≠ 0 ∧
    (0xFF800000 : F32).toNat % 2 ^ 23 = 0 := by
  decide +kernel

theorem witness_TruncDropsTheFraction :
    f32Value 0x7F800000 = none ∧
    f32Value 0xC039999A = some { neg := true, mant := 0xB9999A, up := 0, down := 22 } ∧
    2 * 2 ^ 22 ≤ 0xB9999A * 2 ^ 0 ∧ 0xB9999A * 2 ^ 0 < (2 + 1) * 2 ^ 22 ∧
    f32Value 0x42FF0000 = some { neg := false, mant := 0xFF0000, up := 0, down := 17 } ∧
    127 * 2 ^ 17 ≤ 0xFF0000 * 2 ^ 0 ∧ 0xFF0000 * 2 ^ 0 < (127 + 1) * 2 ^ 17 := by decide +kernel

theorem witness_AckIsAboveHalfBelowThreeHalves :
    f32Value 0x7FC00000 = none ∧
    f32Value 0x3F000000 = some { neg := false, mant := 2 ^ 23, up := 0, down := 24 } := by
  decide +kernel

theorem witness_ConformingReplyIsRead :
    let s := session [0xAA] (reply (List.replicate 16 0x3F))
    registry 0x01 = some (.read .four) ∧ s.AtRest ∧ s.sess = true ∧ s.SendGoes ∧ s.atHand = [] ∧
      s.lTimeout ≠ 0 ∧ DeviceConforms 0x01 s.inWindow := by
  refine ⟨by rfl, by decide, by decide, by decide +kernel, by decide +kernel, by decide, ?_⟩
  intro e h
  cases h
  rfl

theorem witness_ResetInputFromAnyState :
    (given .reset midway).inputs = [.reset] ∧ (given .reset fatalState).inputs = [.reset] := by decide

/-- After the longest `ENCODE` (V17). -/
def encoded : State := after (.encode 0 0x44 p255) (closed [])

theorem witness_ControlRegistersAreTheHosts :
    (stepped (given (.cfg (.timeout 500)) (session [] []))).cfg ≠ (session [] []).cfg ∧
    (stepped (given .reset (noPreclear (session [] (quiet 1))))).cfg.preclear ≠
      (noPreclear (session [] [])).cfg.preclear ∧
    (given (.cfg (.baud 9600)) midway).inputs = [.cfg (.baud 9600)] ∧ midway.busy = true ∧
    (session [] []).busy = false ∧
    encoded.busy = false ∧ encoded.flen.toNat = 259 ∧ encoded.fb[0]? = some 0xBB ∧
    encoded.fb[258]? = some 0xFF := by
  decide +kernel

theorem witness_TimeoutLatchedByConnectOnly :
    Inv midConnect ∧ ∃ t, step midConnect = .next t ∧
      t.lTimeout ≠ midConnect.lTimeout :=
  ⟨inv_midConnect, _, rfl, by decide +kernel⟩

theorem witness_StepKeepsInvariant : Inv midway ∧ ∃ t, step midway = .next t := ⟨inv_midway, _, rfl⟩

theorem witness_EveryOperationEnds :
    (Instr.connect 0 0 noPay).isDescriptor = true ∧ (session [] (quiet 99)).AtRest := by decide

theorem witness_LookingInIsHarmless :
    let s := session [] (quiet 9)
    Inv s ∧ (Instr.xfer 4 1 []).isDescriptor = true ∧ s.AtRest ∧
      (∃ t, exec (.xfer 4 1 []) s = .next t) ∧
      ∃ u, exec (.xfer 4 1 []) { s with burst := some 4 } = .next u :=
  ⟨inv_session, by decide, by decide, ⟨_, rfl⟩, _, rfl⟩

end Sys2Proof.Tests
end

section
/-! SUPPORT. The control part of a state, and what a transition, a descriptor and a step can do to it.
Every fact about sessions, timeouts, control registers and the end of operations is an induction over
these moves. -/

namespace Sys2Proof.Machine

/-- The fields that decide how an operation goes on and that say how it ended. -/
structure Control where
  op : BitVec 4
  cfg : Cfg
  fatal : Bool
  sess : Bool
  lTimeout : BitVec 16
  attempt : BitVec 4
  seq : Seq
  busy : Bool
  ok : Bool
  err : Err

def State.control (s : State) : Control where
  op := s.d.op
  cfg := s.cfg
  fatal := s.fatal
  sess := s.sess
  lTimeout := s.lTimeout
  attempt := s.attempt
  seq := s.seq
  busy := s.busy
  ok := s.ok
  err := s.err

namespace Control

/-! The counterparts of the updates of the state with the same names. -/

def goto (c : Control) (q : Seq) : Control := { c with seq := q }
def succeed (c : Control) : Control :=
  { c with ok := true, err := .noError, seq := .idle, busy := false }
def failWith (c : Control) (k : Err) : Control :=
  { c with ok := false, err := k, seq := .idle, busy := false }
def probeBound (c : Control) : Nat := max 1 c.cfg.probeAttempts.toNat

end Control

/-- The transitions of R180 from one state of an exchange to another one. -/
def Seq.leadsTo : Seq → Seq → Bool
  | .encode, .preclear => true
  | .preclear, .tx => true
  | .tx, .txDrain => true
  | .txDrain, .rxWait => true
  | .rxWait, .decode => true
  | .rxWait, .resync => true
  | _, _ => false

/-- What one transition of the sequencer can do to the control part (R180, R202 to R209). -/
inductive Control.Moves (c : Control) : Control → Prop
  | forward (q : Seq) (hq : c.seq.leadsTo q = true) : c.Moves (c.goto q)
  | succeeds (hq : c.seq.inExchange = true) (hop : c.op ≠ opConnect) : c.Moves c.succeed
  | fails (k : Err) (hq : c.seq.inExchange = true) (hop : c.op ≠ opConnect) :
      c.Moves (c.failWith k)
  | answered (hq : c.seq.inExchange = true) (hop : c.op = opConnect) :
      c.Moves { c with sess := true }.succeed
  | retries (hq : c.seq.inExchange = true) (hop : c.op = opConnect)
      (hb : c.attempt.toNat < c.probeBound) : c.Moves (c.goto .probeSleep)
  | exhausts (hq : c.seq.inExchange = true) (hop : c.op = opConnect)
      (hb : c.probeBound ≤ c.attempt.toNat) : c.Moves (c.goto .closing)
  | wakes (hq : c.seq = .probeSleep) : c.Moves { c with attempt := c.attempt + 1, seq := .encode }
  | openFaults (hq : c.seq = .opening) :
      c.Moves ({ c with lTimeout := c.cfg.timeout }.failWith .transportFault)
  | probes (hq : c.seq = .opening) :
      c.Moves { c with lTimeout := c.cfg.timeout, attempt := c.attempt + 1, seq := .encode }
  | opens (hq : c.seq = .opening) :
      c.Moves { c with lTimeout := c.cfg.timeout, sess := true }.succeed
  | reopens (hq : c.seq = .closing) (hop : c.op = opConnect) (ha : c.attempt = 0) :
      c.Moves ({ c with sess := false }.goto .opening)
  | givesUp (hq : c.seq = .closing) (hop : c.op = opConnect) (ha : c.attempt ≠ 0) :
      c.Moves ({ c with sess := false }.failWith .connectFailed)
  | disconnects (hq : c.seq = .closing) (hop : c.op ≠ opConnect) :
      c.Moves { c with sess := false }.succeed

/-- Any number of transitions. -/
abbrev Control.Reaches : Control → Control → Prop := Relation.ReflTransGen Control.Moves

/-- The control part of an operation's first sequencer state, or of its completion without any
(R160 to R162, R200, R208). -/
inductive Control.Starts (c : Control) : Control → Prop
  | exchange (op : BitVec 4) (q : Seq) (hop : op ≠ opConnect) (hq : q = .encode ∨ q = .rxWait) :
      c.Starts { c with op := op, busy := true, seq := q }
  | succeeds (op : BitVec 4) : c.Starts { c with op := op }.succeed
  | fails (op : BitVec 4) (k : Err) : c.Starts ({ c with op := op }.failWith k)
  | connects (q : Seq) (hq : q = .closing ∨ q = .opening) :
      c.Starts { c with op := opConnect, busy := true, attempt := 0, seq := q }
  | disconnects : c.Starts { c with op := opDisconnect, busy := true, seq := .closing }

/-! ### Transitions -/

theorem exchangeSucceeds_moves (s : State) (hq : s.seq.inExchange = true) :
    s.control.Moves s.exchangeSucceeds.control := by
  unfold State.exchangeSucceeds
  split
  · exact .answered hq ‹_›
  · exact .succeeds hq ‹_›

theorem exchangeFails_moves (s : State) (k : Err) (hq : s.seq.inExchange = true) :
    s.control.Moves (s.exchangeFails k).control := by
  unfold State.exchangeFails
  split
  · split
    · exact .exhausts hq ‹_› ‹_›
    · exact .retries hq ‹_› (Nat.lt_of_not_le ‹_›)
  · exact .fails k hq ‹_›

theorem tickEncode_moves (s : State) (hq : s.seq = .encode) :
    s.control.Moves s.tickEncode.control := by
  unfold State.tickEncode
  split
  · have hop : s.d.op ≠ opConnect := by
      rcases ‹s.d.op = opEncode ∨ s.d.op = opEncodeNp› with h | h <;> rw [h] <;> decide
    exact .succeeds (congrArg Seq.inExchange hq) hop
  · exact .forward .preclear (congrArg (Seq.leadsTo · _) hq)

theorem tickPreclear_moves (s : State) (hq : s.seq = .preclear) :
    s.control.Moves s.tickPreclear.control := by
  have hx : s.seq.inExchange = true := congrArg Seq.inExchange hq
  have hf : s.seq.leadsTo .tx = true := congrArg (Seq.leadsTo · _) hq
  unfold State.tickPreclear
  split
  · rcases rxDiscard_cases s with ⟨-, h⟩ | ⟨-, q, h⟩ <;> rw [h]
    · exact .forward .tx hf
    · exact exchangeFails_moves (s.withTransport _) _ hx
  · exact .forward .tx hf

theorem tickTx_moves (s : State) (hq : s.seq = .tx) : s.control.Moves s.tickTx.control := by
  unfold State.tickTx
  rcases memWrite_cases s s.fb with ⟨-, h⟩ | ⟨-, k, -, h⟩ <;> rw [h]
  · exact .forward .txDrain (congrArg (Seq.leadsTo · _) hq)
  · exact exchangeFails_moves ((s.withTransport _).handed _) _ (congrArg Seq.inExchange hq)

theorem tickTxDrain_moves (s : State) (hq : s.seq = .txDrain) :
    s.control.Moves s.tickTxDrain.control := by
  have hx : s.seq.inExchange = true := congrArg Seq.inExchange hq
  unfold State.tickTxDrain
  rcases txDrain_cases s with ⟨-, h⟩ | ⟨-, k, h⟩ <;> rw [h]
  · dsimp only
    split
    · have hop : s.d.op ≠ opConnect := by
        rw [show s.d.op = opSend from ‹_›]
        decide
      exact .succeeds hx hop
    · split
      · exact exchangeSucceeds_moves (s.withTransport _) hx
      · exact .forward .rxWait (congrArg (Seq.leadsTo · _) hq)
  · exact exchangeFails_moves (s.withTransport _) _ hx

theorem tickRxWait_moves (s : State) (hq : s.seq = .rxWait) :
    s.control.Moves s.tickRxWait.control := by
  unfold State.tickRxWait
  rcases memRead_cases s s.replySize with ⟨q, h⟩ | ⟨b, q, -, h⟩ <;> rw [h]
  · exact exchangeFails_moves (s.withTransport _) _ (congrArg Seq.inExchange hq)
  · dsimp only
    split
    · exact .forward .decode (congrArg (Seq.leadsTo · _) hq)
    · exact .forward .resync (congrArg (Seq.leadsTo · _) hq)

theorem tickResync_moves (s : State) (hq : s.seq = .resync) :
    s.control.Moves s.tickResync.control := by
  have hx : s.seq.inExchange = true := congrArg Seq.inExchange hq
  unfold State.tickResync
  rcases rxDiscard_cases s with ⟨-, h⟩ | ⟨-, q, h⟩ <;> rw [h] <;>
    exact exchangeFails_moves (s.withTransport _) _ hx

theorem tickOpen_moves (s : State) (hq : s.seq = .opening) :
    s.control.Moves s.tickOpen.control := by
  unfold State.tickOpen
  rcases openPort_cases s.latchTimeout s.cfg.openCall with ⟨-, h⟩ | ⟨-, h⟩ <;> rw [h]
  · dsimp only
    split
    · exact .probes hq
    · exact .opens hq
  · exact .openFaults hq

theorem tickClose_moves (s : State) (hq : s.seq = .closing) :
    s.control.Moves s.tickClose.control := by
  unfold State.tickClose
  split
  · split
    · exact .reopens hq ‹_› ‹_›
    · exact .givesUp hq ‹_› ‹_›
  · exact .disconnects hq ‹_›

/-- A transition from any state but a resting one is one of the moves. -/
theorem tick_moves (s : State) (hr : s.seq.resting = false) : s.control.Moves s.tick.control := by
  unfold State.tick
  cases hq : s.seq with
  | idle | fatal => rw [hq] at hr; contradiction
  | encode => exact tickEncode_moves s hq
  | preclear => exact tickPreclear_moves s hq
  | tx => exact tickTx_moves s hq
  | txDrain => exact tickTxDrain_moves s hq
  | rxWait => exact tickRxWait_moves s hq
  | decode => exact exchangeSucceeds_moves s.decoded (congrArg Seq.inExchange hq)
  | resync => exact tickResync_moves s hq
  | opening => exact tickOpen_moves s hq
  | probeSleep => exact .wakes hq
  | closing => exact tickClose_moves s hq

/-- A run is some number of moves. -/
theorem run_reaches (k : Nat) (s : State) : s.control.Reaches (s.run k).control := by
  induction k generalizing s with
  | zero => exact .refl
  | succ k ih =>
    cases hr : s.seq.resting
    · rw [run_succ hr]
      exact .head (tick_moves s hr) (ih s.tick)
    · rw [run_resting hr]

@[simp] theorem settle_control (s : State) : s.settle.control = s.control := by
  rcases settle_cases s with ⟨-, h⟩ | ⟨-, h⟩ | ⟨-, p, -, h⟩ <;> rw [h]
  rfl

theorem pursue_reaches (s : State) : s.control.Reaches s.pursue.control := by
  rw [State.pursue, settle_control]
  exact run_reaches _ s

theorem proceed_reaches (s : State) : s.control.Reaches s.proceed.control := by
  rw [State.proceed, settle_control]
  exact run_reaches _ s

/-- What every move keeps, every run keeps. -/
theorem Control.Reaches.keeps {P : Control → Prop}
    (hP : ∀ c c', Control.Moves c c' → P c → P c') {c c' : Control} (h : c.Reaches c') (hc : P c) : P c' := by
  induction h with
  | refl => exact hc
  | tail _ hm ih => exact hP _ _ hm ih

end Sys2Proof.Machine
end

section
/-! SUPPORT. What presenting a descriptor can do, and what a step can do. -/

namespace Sys2Proof.Machine

/-- The states that presenting a descriptor can lead to: it is not taken, or it is a programming error,
or its operation is started and goes on (R44, R110, R164). -/
inductive Presented (s : State) : State → Prop
  | held : Presented s s
  | fatal (hr : s.ready = true) : Presented s s.enterFatal
  | runs (u : State) (hr : s.ready = true) (hs : s.control.Starts u.control)
      (hb : u.burst = s.burst) : Presented s u.pursue

/-! ### Presenting a descriptor -/

theorem submit_not_ready {s : State} (hr : s.ready = false) (w : Bool) (u : State) :
    s.submit w u = s := by
  simp [State.submit, hr]

theorem submit_illFormed {s : State} (hr : s.ready = true) (u : State) :
    s.submit false u = s.enterFatal := by
  simp [State.submit, hr]

theorem submit_wellFormed {s : State} (hr : s.ready = true) (u : State) :
    s.submit true u = u.pursue := by
  simp [State.submit, hr]

theorem submit_presented {s u : State} (w : Bool) (hs : s.control.Starts u.control)
    (hb : u.burst = s.burst) : Presented s (s.submit w u) := by
  rcases submit_cases s w u with ⟨-, h⟩ | ⟨hr, -, h⟩ | ⟨hr, -, h⟩ <;> rw [h]
  · exact .held
  · exact .fatal hr
  · exact .runs u hr hs hb

theorem startSend_presented (s : State) (w : Bool) (l : Latch) (hl : l.op = opSend) :
    Presented s (s.submit w (s.accept l none).startSend) := by
  have hop : l.op ≠ opConnect := by rw [hl]; decide
  unfold State.startSend
  split
  · exact submit_presented w (.exchange l.op .encode hop (.inl rfl)) rfl
  · exact submit_presented w (.fails l.op .transportUnavailable) rfl

theorem startRecv_presented (s : State) (w : Bool) (l : Latch) (hl : l.op = opRecv) :
    Presented s (s.submit w (s.accept l none).startRecv) := by
  have hop : l.op ≠ opConnect := by rw [hl]; decide
  unfold State.startRecv
  split
  · exact submit_presented w (.fails l.op .transportUnavailable) rfl
  · split
    · exact submit_presented w (.succeeds l.op) rfl
    · exact submit_presented w (.exchange l.op .rxWait hop (.inr rfl)) rfl

theorem issueXfer_presented (s : State) (n : Nat) (cmd : Byte) (p : List Byte)
    (c : Option Pending) : Presented s (s.issueXfer n cmd p c) := by
  unfold State.issueXfer State.startXfer
  split
  · exact submit_presented _ (.exchange opXfer .encode (by decide) (.inl rfl)) rfl
  · exact submit_presented _ (.fails opXfer .transportUnavailable) rfl

theorem startConnect_presented (s : State) (l : Latch) (hl : l.op = opConnect) :
    Presented s (s.submit true (s.accept l none).startConnect) := by
  have starts (q : Seq) (hq : q = .closing ∨ q = .opening) : s.control.Starts
      (((s.accept l none).clearResults.noAttempt).goto q).control := by
    have h := Control.Starts.connects (c := s.control) q hq
    rwa [← hl] at h
  unfold State.startConnect
  split
  · exact submit_presented true (starts .closing (.inl rfl)) rfl
  · exact submit_presented true (starts .opening (.inr rfl)) rfl

theorem startDisconnect_presented (s : State) (l : Latch) (hl : l.op = opDisconnect) :
    Presented s (s.submit true (s.accept l none).startDisconnect) := by
  unfold State.startDisconnect
  split
  · have starts := Control.Starts.disconnects (c := s.control)
    rw [← hl] at starts
    exact submit_presented true starts rfl
  · exact submit_presented true (.succeeds l.op) rfl

theorem encode_presented (s : State) (w : Bool) (l : Latch)
    (hl : l.op = opEncode ∨ l.op = opEncodeNp) :
    Presented s (s.submit w ((s.accept l none).goto .encode)) := by
  have hop : l.op ≠ opConnect := by rcases hl with h | h <;> rw [h] <;> decide
  exact submit_presented w (.exchange l.op .encode hop (.inl rfl)) rfl

/-- Every descriptor answers a next state, of one of the three kinds. -/
theorem exec_presented (i : Instr) (s : State) (hi : i.isDescriptor = true) :
    ∃ t, exec i s = .next t ∧ Presented s t := by
  cases i with
  | encode n cmd p => exact ⟨_, rfl, encode_presented s _ _ (.inl rfl)⟩
  | encodeNp n cmd g => exact ⟨_, rfl, encode_presented s _ _ (.inr rfl)⟩
  | send n cmd p => exact ⟨_, rfl, startSend_presented s _ _ rfl⟩
  | recv n cmd g => exact ⟨_, rfl, startRecv_presented s _ _ rfl⟩
  | xfer n cmd p => exact ⟨_, rfl, issueXfer_presented s n cmd p none⟩
  | connect n cmd g => exact ⟨_, rfl, startConnect_presented s _ rfl⟩
  | disconnect n cmd g => exact ⟨_, rfl, startDisconnect_presented s _ rfl⟩
  | xferA n cmd => exact ⟨_, rfl, issueXfer_presented s n cmd [] none⟩
  | xferB cmd pos v => exact ⟨_, rfl, issueXfer_presented s 1 cmd (packB pos v) none⟩
  | xferC cmd a b c => exact ⟨_, rfl, issueXfer_presented s 0 cmd (packC a b c) none⟩
  | readQuat => exact ⟨_, rfl, issueXfer_presented s 4 0x01 [] _⟩
  | readRPY => exact ⟨_, rfl, issueXfer_presented s 3 0x02 [] _⟩
  | reservedOp op rest => exact ⟨s, rfl, .held⟩
  | frameA | frameB | frameC | frame | readQuatFrame | readRpyFrame | getFrameId =>
    contradiction

/-- A request frame is taken by the device, and nothing else happens (R6, R122). -/
theorem exec_wire (i : Instr) (s : State) (hi : i.isDescriptor = false) :
    ∃ frame, exec i s = .next (s.deviceTakes frame) := by
  cases i with
  | frameA | frameB | frameC | frame | readQuatFrame | readRpyFrame | getFrameId =>
    exact ⟨_, rfl⟩
  | encode | encodeNp | send | recv | xfer | connect | disconnect | xferA | xferB | xferC
  | readQuat | readRPY | reservedOp => contradiction

/-! ### What is fetched -/

theorem ofXfer_isDescriptor (n : Nat) (cmd : Byte) (p : List Byte) :
    (Instr.ofXfer n cmd p).isDescriptor = true := by
  unfold Instr.ofXfer
  repeat' split
  all_goals rfl

theorem ofXfer_wf {n : Nat} (cmd : Byte) {p : List Byte} (hn : n < 16) (hp : p.length ≤ 255) :
    (Instr.ofXfer n cmd p).wf = true := by
  unfold Instr.ofXfer
  repeat' split
  all_goals simp_all [Instr.wf, arityFits, payloadFits]

/-- The most specific spelling of an `XFER` issues that `XFER`, for a caller or for none (R114, R223,
R224). -/
theorem exec_ofXfer (n : Nat) (cmd : Byte) (p : List Byte) (s : State) :
    ∃ c, exec (.ofXfer n cmd p) s = .next (s.issueXfer n cmd p c) := by
  unfold Instr.ofXfer
  split
  · split
    · obtain ⟨rfl, rfl⟩ := ‹_ ∧ _›
      exact ⟨_, rfl⟩
    · split
      · obtain ⟨rfl, rfl⟩ := ‹_ ∧ _›
        exact ⟨_, rfl⟩
      · exact ⟨none, rfl⟩
  · split
    · subst ‹n = 1›
      exact ⟨none, by simp [exec, execXferB, packB, bytesLE_le32]⟩
    · exact ⟨none, rfl⟩
  · split
    · subst ‹n = 0›
      exact ⟨none, by simp [exec, execXferC, packC, bytesLE_le32]⟩
    · exact ⟨none, rfl⟩
  · exact ⟨none, rfl⟩

theorem ofFrame_not_descriptor (cmd : Byte) (p : List Byte) (chk : Byte) :
    (Instr.ofFrame cmd p chk).isDescriptor = false := by
  unfold Instr.ofFrame
  repeat' split
  all_goals rfl

theorem takePlen_length (plen : Byte) (pay : List Byte) : (pay.take plen.toNat).length ≤ 255 := by
  have := plen.isLt
  rw [List.length_take]
  omega

theorem takePlen_fits (plen : Byte) (pay : List Byte) :
    (Ignored.mk plen (pay.take plen.toNat)).fits = true := by
  simp [Ignored.fits]

theorem arityFits_toNat (n : BitVec 4) : arityFits n.toNat = true :=
  decide_eq_true n.isLt

theorem isReservedOp_of_ne {op : BitVec 4} (h1 : op.toNat ≠ 1) (h2 : op.toNat ≠ 2)
    (h3 : op.toNat ≠ 3) (h4 : op.toNat ≠ 4) (h5 : op.toNat ≠ 5) (h6 : op.toNat ≠ 6)
    (h7 : op.toNat ≠ 7) : isReservedOp op = true :=
  decide_eq_true (by omega)

/-- What a packed descriptor decodes to is a well-formed descriptor (R102, R104). -/
theorem decodeDescriptor_wf {h : Header} {pay left : List Byte} {i : Instr}
    (hd : decodeDescriptor h pay = .ok (i, left)) : i.isDescriptor = true ∧ i.wf = true := by
  have hpay := takePlen_length (headerPlen h) pay
  have hign := takePlen_fits (headerPlen h) pay
  have hn := arityFits_toNat (headerN h)
  unfold decodeDescriptor at hd
  dsimp only at hd
  split at hd
  case h_1 | h_3 =>
    split at hd <;> cases hd
    exact ⟨rfl, decide_eq_true hpay⟩
  case h_2 | h_6 | h_7 =>
    cases hd
    exact ⟨rfl, hign⟩
  case h_4 =>
    cases hd
    exact ⟨rfl, by simp [Instr.wf, hn, hign]⟩
  case h_5 =>
    split at hd <;> cases hd
    exact ⟨ofXfer_isDescriptor _ _ _, ofXfer_wf _ (headerN h).isLt hpay⟩
  case h_8 =>
    cases hd
    exact ⟨rfl, by apply isReservedOp_of_ne <;> assumption⟩

theorem toInstr_isDescriptor (d : Descriptor) : d.toInstr.isDescriptor = true := by
  unfold Descriptor.toInstr
  dsimp only
  split
  case h_5 => exact ofXfer_isDescriptor _ _ _
  all_goals rfl

theorem decodeFrame_not_descriptor {bytes left : List Byte} {i : Instr}
    (hd : decodeFrame bytes = .ok (i, left)) : i.isDescriptor = false := by
  unfold decodeFrame at hd
  repeat' split at hd
  all_goals cases hd
  exact ofFrame_not_descriptor _ _ _

end Sys2Proof.Machine
end

section
namespace Sys2Proof.Machine

/-! ### The step -/

@[simp] theorem pulseOver_ready (s : State) : s.pulseOver.ready = s.ready := rfl

theorem ready_of_busy {s : State} (h : s.busy = true) : s.ready = false := by
  simp [State.ready, h]

theorem ready_of_fatal {s : State} (h : s.fatal = true) : s.ready = false := by
  simp [State.ready, h]

theorem ready_iff (s : State) : s.ready = true ↔ s.busy = false ∧ s.fatal = false := by
  simp [State.ready]

theorem writeCfg_busy {s : State} (h : s.busy = true) (w : CfgWrite) : s.writeCfg w = s := by
  simp [State.writeCfg, h]

theorem writeCfg_idle {s : State} (h : s.busy = false) (w : CfgWrite) :
    s.writeCfg w = { s with cfg := s.cfg.write w } := by
  simp [State.writeCfg, h]

theorem step_nothing {s : State} (hi : s.inputs = []) : step s = .next s.pulseOver.proceed := by
  simp [step, fetch, hi]

theorem step_packed {s : State} {h : Header} {pay left : List Byte} {rest : List Input} {i : Instr}
    (hr : s.ready = true) (hi : s.inputs = .packed h pay :: rest)
    (hd : decodeDescriptor h pay = .ok (i, left)) :
    step s = exec i (s.pulseOver.inputsLeft rest) := by
  simp [step, fetch, hi, hr, hd]

theorem step_record {s : State} {d : Descriptor} {rest : List Input}
    (hr : s.ready = true) (hi : s.inputs = .record d :: rest) :
    step s = exec d.toInstr (s.pulseOver.inputsLeft rest) := by
  simp [step, fetch, hi, hr]

theorem step_cfg {s : State} {w : CfgWrite} {rest : List Input} (hi : s.inputs = .cfg w :: rest) :
    step s = .next ((s.pulseOver.inputsLeft rest).writeCfg w) := by
  simp [step, fetch, hi]

theorem step_wire {s : State} {rest : List Input} {i : Instr} {left : List Byte}
    (hi : s.inputs = .deviceTurn :: rest) (hd : decodeFrame s.tr.wire = .ok (i, left)) :
    step s = exec i { s.pulseOver.inputsLeft rest with tr := { s.tr with wire := left } } := by
  simp [step, fetch, hi, hd]

/-- The inputs by which the host asks for an operation. -/
def Input.isRequest : Input → Bool
  | .packed _ _ => true
  | .record _ => true
  | .call _ => true
  | _ => false

/-- A block that is not ready goes on with its operation, whatever is requested of it (R44). -/
theorem step_request_held {s : State} {i : Input} {rest : List Input} (hr : s.ready = false)
    (hi : s.inputs = i :: rest) (hq : i.isRequest = true) :
    step s = .next s.pulseOver.proceed := by
  cases i with
  | packed | record | call => simp [step, fetch, hi, hr]
  | cfg | reset | arrive | transmit | unplug | deviceTurn | watch => contradiction

/-- What a step can do. -/
inductive StepMove (s : State) : State → Prop
  | proceeds : StepMove s s.pulseOver.proceed
  | presents (rest : List Input) (t : State) (hp : Presented (s.pulseOver.inputsLeft rest) t) :
      StepMove s t
  | writes (w : CfgWrite) (rest : List Input) (hi : s.inputs = .cfg w :: rest) :
      StepMove s ((s.pulseOver.inputsLeft rest).writeCfg w)
  | resets (rest : List Input) (hi : s.inputs = .reset :: rest) :
      StepMove s (s.pulseOver.inputsLeft rest).resetBlock
  | environment (t : State) (hb : t.blockOnly = s.pulseOver.blockOnly) : StepMove s t

/-- An instruction run in place of an input that the step took off the list. -/
theorem exec_stepMove {s t : State} {i : Instr} (rest : List Input) (hi : i.isDescriptor = true)
    (h : exec i (s.pulseOver.inputsLeft rest) = .next t) : StepMove s t := by
  obtain ⟨u, hu, hp⟩ := exec_presented i (s.pulseOver.inputsLeft rest) hi
  cases hu.symm.trans h
  exact .presents rest t hp

/-- A device's turn is the environment's alone (R6, R122). -/
theorem step_deviceTurn {s t : State} {rest : List Input} (hi : s.inputs = .deviceTurn :: rest)
    (h : step s = .next t) : t.blockOnly = s.pulseOver.blockOnly := by
  cases hd : decodeFrame s.tr.wire with
  | error e =>
    have ht : step s = .next (s.pulseOver.inputsLeft rest).deviceIdles := by
      simp [step, fetch, hi, hd]
    cases ht.symm.trans h
    rfl
  | ok r =>
    obtain ⟨i, left⟩ := r
    have ht := step_wire hi hd
    obtain ⟨frame, hf⟩ := exec_wire i
      { s.pulseOver.inputsLeft rest with tr := { s.tr with wire := left } }
      (decodeFrame_not_descriptor hd)
    cases (ht.trans hf).symm.trans h
    rfl

/-- Every step that answers a next state does one of these. -/
theorem step_cases {s t : State} (h : step s = .next t) : StepMove s t := by
  cases hi : s.inputs with
  | nil =>
    cases (step_nothing hi).symm.trans h
    exact .proceeds
  | cons i rest =>
    cases hrq : i.isRequest && !s.ready
    case true =>
      obtain ⟨hq, hr⟩ : i.isRequest = true ∧ s.ready = false := by simpa using hrq
      cases (step_request_held hr hi hq).symm.trans h
      exact .proceeds
    cases i with
    | packed hdr pay =>
      have hr : s.ready = true := by simpa [Input.isRequest] using hrq
      cases hd : decodeDescriptor hdr pay with
      | error e => simp [step, fetch, hi, hr, hd] at h
      | ok r =>
        exact exec_stepMove rest (decodeDescriptor_wf hd).1 ((step_packed hr hi hd).symm.trans h)
    | record d =>
      have hr : s.ready = true := by simpa [Input.isRequest] using hrq
      exact exec_stepMove rest (toInstr_isDescriptor d) ((step_record hr hi).symm.trans h)
    | call c =>
      have hr : s.ready = true := by simpa [Input.isRequest] using hrq
      have ht : step s = .next ((s.pulseOver.inputsLeft rest).typedCall c) := by
        simp [step, fetch, hi, hr]
      cases ht.symm.trans h
      exact .presents rest _ (issueXfer_presented _ _ _ _ _)
    | cfg w =>
      cases (step_cfg hi).symm.trans h
      exact .writes w rest hi
    | reset =>
      have ht : step s = .next (s.pulseOver.inputsLeft rest).resetBlock := by simp [step, fetch, hi]
      cases ht.symm.trans h
      exact .resets rest hi
    | deviceTurn => exact .environment t (step_deviceTurn hi h)
    | arrive | transmit | unplug | watch =>
      simp only [step, fetch, pulseOver_inputs, hi, Host.Outcome.next.injEq] at h
      subst h
      exact .environment _ rfl

/-- What a step can do to the control part. -/
inductive ControlStep (s t : State) : Prop
  | runs (c : Control) (hc : c = s.control ∨ s.control.Starts c) (h : c.Reaches t.control)
  | fatal (h : t.control = s.enterFatal.control)
  | writes (w : CfgWrite) (hi : s.inputs.head? = some (.cfg w)) (hb : s.busy = false)
      (h : t.control = { s.control with cfg := s.cfg.write w })
  | resets (hi : s.inputs.head? = some .reset) (h : t.control = State.reset.control)

theorem step_control {s t : State} (h : step s = .next t) : ControlStep s t := by
  cases step_cases h with
  | proceeds => exact .runs s.control (.inl rfl) (proceed_reaches s.pulseOver)
  | presents rest t hp =>
    cases hp with
    | held => exact .runs s.control (.inl rfl) .refl
    | fatal => exact .fatal rfl
    | runs u _ hs _ => exact .runs u.control (.inr hs) (pursue_reaches u)
  | writes w rest hi =>
    cases hb : s.busy with
    | false =>
      rw [writeCfg_idle (s := s.pulseOver.inputsLeft rest) hb]
      exact .writes w (congrArg List.head? hi) hb rfl
    | true =>
      rw [writeCfg_busy (s := s.pulseOver.inputsLeft rest) hb]
      exact .runs s.control (.inl rfl) .refl
  | resets rest hi => exact .resets (congrArg List.head? hi) rfl
  | environment t hb =>
    have hc : t.blockOnly.control = s.pulseOver.blockOnly.control := congrArg State.control hb
    exact .runs t.control (.inl hc) .refl

end Sys2Proof.Machine
end

section
/-! SUPPORT. The transitions of an operation do not see what the outside world has in store. -/

namespace Sys2Proof.Machine

/-- The same block and environment before another outside world: other inputs to come, another look-in
counter, another typed call and another result at the host. -/
def State.facing (s : State) (ins : List Input) (b : Option Nat) (c : Option Pending)
    (r : Option TypedResult) : State :=
  { s with inputs := ins, burst := b, call := c, ret := r }

section Facing
variable (s : State) (ins : List Input) (b : Option Nat) (c : Option Pending)
  (r : Option TypedResult)

@[simp] theorem facing_self : s.facing s.inputs s.burst s.call s.ret = s := rfl
@[simp] theorem facing_seq : (s.facing ins b c r).seq = s.seq := rfl

/-! Each operation below is a choice between updates on conditions that do not read the four fields, so
that `facing` goes into the branches of the choice and there nothing is left to show. -/

theorem rxDiscard_facing : (s.facing ins b c r).rxDiscard =
    Prod.map id (State.facing · ins b c r) s.rxDiscard := by
  simp only [State.rxDiscard, apply_ite (Prod.map id (State.facing · ins b c r))]
  rfl

theorem txDrain_facing : (s.facing ins b c r).txDrain =
    Prod.map id (State.facing · ins b c r) s.txDrain := by
  simp only [State.txDrain, apply_ite (Prod.map id (State.facing · ins b c r))]
  rfl

theorem memRead_facing (N : Nat) : (s.facing ins b c r).memRead N =
    Prod.map id (State.facing · ins b c r) (s.memRead N) := by
  simp only [State.memRead, apply_ite (Prod.map id (State.facing · ins b c r))]
  rfl

theorem openPort_facing (o : OpenCall) : (s.facing ins b c r).openPort o =
    Prod.map id (State.facing · ins b c r) (s.openPort o) := by
  simp only [State.openPort, apply_ite (Prod.map id (State.facing · ins b c r))]
  rfl

theorem exchangeSucceeds_facing :
    (s.facing ins b c r).exchangeSucceeds = s.exchangeSucceeds.facing ins b c r := by
  simp only [State.exchangeSucceeds, apply_ite (State.facing · ins b c r)]
  rfl

theorem exchangeFails_facing (k : Err) :
    (s.facing ins b c r).exchangeFails k = (s.exchangeFails k).facing ins b c r := by
  simp only [State.exchangeFails, apply_ite (State.facing · ins b c r)]
  rfl

theorem tickEncode_facing : (s.facing ins b c r).tickEncode = s.tickEncode.facing ins b c r := by
  simp only [State.tickEncode, apply_ite (State.facing · ins b c r)]
  rfl

theorem tickPreclear_facing :
    (s.facing ins b c r).tickPreclear = s.tickPreclear.facing ins b c r := by
  simp only [State.tickPreclear, rxDiscard_facing, apply_ite (State.facing · ins b c r)]
  rcases s.rxDiscard with ⟨_ | _, t⟩
  · rfl
  · exact congrArg (ite _ · _) (exchangeFails_facing t ins b c r _)

theorem tickTx_facing : (s.facing ins b c r).tickTx = s.tickTx.facing ins b c r := by
  have h : (s.facing ins b c r).memWrite s.fb =
    Prod.map id (State.facing · ins b c r) (s.memWrite s.fb) := rfl
  unfold State.tickTx
  rw [show (s.facing ins b c r).fb = s.fb from rfl, h]
  rcases s.memWrite s.fb with ⟨_ | _, t⟩
  · rfl
  · exact exchangeFails_facing (t.handed (s.written s.fb)) ins b c r _

theorem tickTxDrain_facing :
    (s.facing ins b c r).tickTxDrain = s.tickTxDrain.facing ins b c r := by
  simp only [State.tickTxDrain, txDrain_facing]
  rcases s.txDrain with ⟨_ | _, t⟩
  · simp only [Prod.map, id_eq, exchangeSucceeds_facing, apply_ite (State.facing · ins b c r)]
    rfl
  · exact exchangeFails_facing t ins b c r _

theorem tickRxWait_facing : (s.facing ins b c r).tickRxWait = s.tickRxWait.facing ins b c r := by
  simp only [State.tickRxWait, memRead_facing]
  rw [show (s.facing ins b c r).replySize = s.replySize from rfl]
  rcases s.memRead s.replySize with ⟨_ | _, t⟩
  · simp only [Prod.map, apply_ite (State.facing · ins b c r)]
    rfl
  · exact exchangeFails_facing t ins b c r _

theorem tickResync_facing : (s.facing ins b c r).tickResync = s.tickResync.facing ins b c r := by
  unfold State.tickResync
  rw [rxDiscard_facing]
  exact exchangeFails_facing s.rxDiscard.2 ins b c r _

theorem tickOpen_facing : (s.facing ins b c r).tickOpen = s.tickOpen.facing ins b c r := by
  have h : (s.facing ins b c r).latchTimeout.openPort s.cfg.openCall =
    Prod.map id (State.facing · ins b c r) (s.latchTimeout.openPort s.cfg.openCall) :=
    openPort_facing s.latchTimeout ins b c r s.cfg.openCall
  unfold State.tickOpen
  rw [show (s.facing ins b c r).cfg = s.cfg from rfl, h]
  rcases s.latchTimeout.openPort s.cfg.openCall with ⟨_ | _, t⟩
  · simp only [Prod.map, apply_ite (State.facing · ins b c r)]
    rfl
  · rfl

theorem tickClose_facing : (s.facing ins b c r).tickClose = s.tickClose.facing ins b c r := by
  simp only [State.tickClose, apply_ite (State.facing · ins b c r)]
  rfl

/-- A transition does the same whatever the outside world has in store, and leaves that alone. -/
theorem tick_facing : (s.facing ins b c r).tick = s.tick.facing ins b c r := by
  unfold State.tick
  rw [facing_seq]
  cases s.seq with
  | idle | fatal | probeSleep => rfl
  | encode => exact tickEncode_facing s ins b c r
  | preclear => exact tickPreclear_facing s ins b c r
  | tx => exact tickTx_facing s ins b c r
  | txDrain => exact tickTxDrain_facing s ins b c r
  | rxWait => exact tickRxWait_facing s ins b c r
  | decode => exact exchangeSucceeds_facing s.decoded ins b c r
  | resync => exact tickResync_facing s ins b c r
  | opening => exact tickOpen_facing s ins b c r
  | closing => exact tickClose_facing s ins b c r

theorem run_facing (k : Nat) : (s.facing ins b c r).run k = (s.run k).facing ins b c r := by
  induction k generalizing s with
  | zero => rfl
  | succ k ih =>
    cases hr : s.seq.resting
    · rw [run_succ hr, run_succ (s := s.facing ins b c r) hr, tick_facing, ih]
    · rw [run_resting hr, run_resting (s := s.facing ins b c r) hr]

end Facing

/-- A run leaves alone what the outside world has in store. -/
theorem run_outside (k : Nat) (s : State) : (s.run k).inputs = s.inputs ∧
    (s.run k).burst = s.burst ∧ (s.run k).call = s.call ∧ (s.run k).ret = s.ret := by
  have h := run_facing s s.inputs s.burst s.call s.ret k
  rw [facing_self] at h
  rw [h]
  exact ⟨rfl, rfl, rfl, rfl⟩

theorem run_inputsLeft (k : Nat) (s : State) (ins : List Input) :
    (s.inputsLeft ins).run k = (s.run k).inputsLeft ins := by
  obtain ⟨-, hb, hc, hr⟩ := run_outside k s
  calc (s.inputsLeft ins).run k
      = (s.run k).facing ins s.burst s.call s.ret := run_facing s ins s.burst s.call s.ret k
    _ = (s.run k).inputsLeft ins := by rw [← hb, ← hc, ← hr]; rfl

theorem settle_inputsLeft (s : State) (ins : List Input) :
    (s.inputsLeft ins).settle = s.settle.inputsLeft ins := by
  rcases settle_cases s with ⟨hb, h⟩ | ⟨hc, h⟩ | ⟨hb, p, hc, h⟩ <;> rw [h]
  · simp [State.settle, hb]
  · simp [State.settle, hc]
  · simp only [State.settle, inputsLeft_busy, inputsLeft_call, hb, hc]
    rfl

/-- An operation goes on in the same way whatever inputs are to come. -/
theorem proceed_inputsLeft (s : State) (ins : List Input) :
    (s.inputsLeft ins).proceed = s.proceed.inputsLeft ins := by
  unfold State.proceed
  rw [inputsLeft_burst, run_inputsLeft, settle_inputsLeft]

theorem proceed_inputs (s : State) : s.proceed.inputs = s.inputs := by
  rw [show s.proceed = s.proceed.inputsLeft s.inputs from proceed_inputsLeft s s.inputs]
  rfl

end Sys2Proof.Machine
end

section
/-! SUPPORT. Facts that the moves keep: the sequencer stays orderly, and the transitions left to an
operation decrease. -/

namespace Sys2Proof.Machine

/-- What holds of the control part in and after every operation (R27, R32, R180, R200, R207). -/
structure Control.Orderly (c : Control) : Prop where
  idle_free : c.seq = .idle → c.busy = false
  fatal_set : c.seq = .fatal → c.fatal = true
  open_connects : c.seq = .opening → c.op = opConnect
  open_first : c.seq = .opening → c.attempt = 0
  sleep_bound : c.seq = .probeSleep → c.attempt.toNat < c.probeBound

theorem Inv.orderly {s : State} (h : Inv s) : s.control.Orderly where
  idle_free := h.idle_iff.2
  fatal_set := h.fatal_iff.2
  open_connects hq :=
    have ⟨_, _, _, hop, _⟩ := h.admitted
    hop (.inl hq)
  open_first := h.open_first
  sleep_bound := h.sleep_bound

/-- Only sleep and opening ask more of an orderly state than that its flags fit. -/
theorem Control.Orderly.of_plain {c : Control} (hi : c.seq = .idle → c.busy = false)
    (hf : c.seq ≠ .fatal) (ho : c.seq ≠ .opening) (hs : c.seq ≠ .probeSleep) : c.Orderly where
  idle_free := hi
  fatal_set h := absurd h hf
  open_connects h := absurd h ho
  open_first h := absurd h ho
  sleep_bound h := absurd h hs

theorem succeed_orderly (c : Control) : c.succeed.Orderly :=
  .of_plain (fun _ => rfl) nofun nofun nofun

theorem failWith_orderly (c : Control) (k : Err) : (c.failWith k).Orderly :=
  .of_plain (fun _ => rfl) nofun nofun nofun

theorem exchange_orderly {c : Control} (hq : c.seq.inExchange = true) : c.Orderly := by
  apply Control.Orderly.of_plain <;> intro h <;> rw [h] at hq <;> contradiction

theorem starts_orderly {c c' : Control} (h : c.Starts c') : c'.Orderly := by
  cases h with
  | exchange op q hop hq => rcases hq with rfl | rfl <;> exact exchange_orderly rfl
  | succeeds op => exact succeed_orderly _
  | fails op k => exact failWith_orderly _ k
  | connects q hq =>
    rcases hq with rfl | rfl
    · exact .of_plain nofun nofun nofun nofun
    · exact ⟨nofun, nofun, fun _ => rfl, fun _ => rfl, nofun⟩
  | disconnects => exact .of_plain nofun nofun nofun nofun

theorem leadsTo_inExchange {p q : Seq} (h : p.leadsTo q = true) :
    p.inExchange = true ∧ q.inExchange = true := by
  unfold Seq.leadsTo at h
  split at h
  case h_7 => contradiction
  all_goals exact ⟨rfl, rfl⟩

theorem moves_orderly {c c' : Control} (h : c.Moves c') : c'.Orderly := by
  cases h with
  | forward q hq => exact exchange_orderly (leadsTo_inExchange hq).2
  | succeeds | answered | opens | disconnects => exact succeed_orderly _
  | fails | openFaults | givesUp => exact failWith_orderly _ _
  | retries hq hop hb => exact ⟨nofun, nofun, nofun, nofun, fun _ => hb⟩
  | exhausts => exact .of_plain nofun nofun nofun nofun
  | wakes | probes => exact exchange_orderly rfl
  | reopens hq hop ha => exact ⟨nofun, nofun, fun _ => hop, fun _ => ha, nofun⟩

/-! ### How long an operation lasts -/

/-- How many transitions an exchange in this state has before it at most. -/
def Seq.exchangeLeft : Seq → Nat
  | .encode => 6
  | .preclear => 5
  | .tx => 4
  | .txDrain => 3
  | .rxWait => 2
  | .decode => 1
  | .resync => 1
  | _ => 0

/-- A bound on the transitions before the operation is over. A probe attempt is an exchange of at most
six transitions and a sleep or the last close. -/
def Control.ticksLeft (c : Control) : Nat :=
  match c.seq with
  | .idle => 0
  | .fatal => 0
  | .opening => 7 * c.probeBound + 1
  | .closing => if c.attempt = 0 then 7 * c.probeBound + 2 else 1
  | q => 7 * (c.probeBound - c.attempt.toNat) + q.exchangeLeft + 1

theorem ticksLeft_idle {c : Control} (hq : c.seq = .idle) : c.ticksLeft = 0 := by
  simp [Control.ticksLeft, hq]

theorem ticksLeft_opening {c : Control} (hq : c.seq = .opening) :
    c.ticksLeft = 7 * c.probeBound + 1 := by
  simp [Control.ticksLeft, hq]

theorem ticksLeft_reopening {c : Control} (hq : c.seq = .closing) (ha : c.attempt = 0) :
    c.ticksLeft = 7 * c.probeBound + 2 := by
  simp [Control.ticksLeft, hq, ha]

theorem ticksLeft_exhausted {c : Control} (hq : c.seq = .closing) (ha : c.attempt ≠ 0) :
    c.ticksLeft = 1 := by
  simp only [Control.ticksLeft, hq, if_neg ha]

theorem ticksLeft_exchange {c : Control} (hq : c.seq.inExchange = true ∨ c.seq = .probeSleep) :
    c.ticksLeft = 7 * (c.probeBound - c.attempt.toNat) + c.seq.exchangeLeft + 1 := by
  unfold Control.ticksLeft
  split <;> simp_all [Seq.inExchange]

theorem ticksLeft_pos {c : Control} (hq : c.seq.resting = false) : 0 < c.ticksLeft := by
  unfold Control.ticksLeft
  split <;> simp_all [Seq.resting]
  split <;> omega

theorem probeBound_pos (c : Control) : 1 ≤ c.probeBound := Nat.le_max_left _ _

theorem probeBound_le (c : Control) : c.probeBound ≤ 15 := by
  have := c.cfg.probeAttempts.isLt
  unfold Control.probeBound
  omega

theorem ticksLeft_le_opTicks (c : Control) : c.ticksLeft ≤ opTicks := by
  have hb := probeBound_le c
  have hx : c.seq.exchangeLeft ≤ 6 := by cases c.seq <;> decide
  unfold Control.ticksLeft opTicks
  split
  case h_4 => split <;> omega
  all_goals omega

theorem leadsTo_exchangeLeft {p q : Seq} (h : p.leadsTo q = true) :
    q.exchangeLeft < p.exchangeLeft := by
  unfold Seq.leadsTo at h
  split at h
  case h_7 => contradiction
  all_goals decide

theorem inExchange_not_resting {q : Seq} (h : q.inExchange = true) : q.resting = false := by
  cases q with
  | idle | opening | probeSleep | closing | fatal => contradiction
  | encode | preclear | tx | txDrain | rxWait | decode | resync => rfl

theorem moves_not_resting {c c' : Control} (h : c.Moves c') : c.seq.resting = false := by
  cases h with
  | forward q hq => exact inExchange_not_resting (leadsTo_inExchange hq).1
  | succeeds hq | answered hq | fails k hq | retries hq | exhausts hq =>
    exact inExchange_not_resting hq
  | wakes hq | openFaults hq | probes hq | opens hq | reopens hq | givesUp hq | disconnects hq =>
    rw [hq]
    rfl

theorem exchangeLeft_pos {q : Seq} (h : q.inExchange = true) : 0 < q.exchangeLeft := by
  cases q with
  | idle | opening | probeSleep | closing | fatal => contradiction
  | encode | preclear | tx | txDrain | rxWait | decode | resync => decide

/-- Attempts are counted without overflow as long as the bound allows one more (R37, R206). -/
theorem attempt_succ {c : Control} (h : c.attempt.toNat < c.probeBound) :
    (c.attempt + 1).toNat = c.attempt.toNat + 1 := by
  have := probeBound_le c
  rw [BitVec.toNat_add]
  exact Nat.mod_eq_of_lt (by change c.attempt.toNat + 1 < 16; omega)

/-- Every move of an orderly block brings the end of its operation nearer. -/
theorem moves_ticksLeft {c c' : Control} (h : c.Moves c') (hc : c.Orderly) :
    c'.ticksLeft < c.ticksLeft := by
  have hpos := ticksLeft_pos (moves_not_resting h)
  have hbound := probeBound_pos c
  cases h with
  | forward q hq =>
    obtain ⟨hp, hq'⟩ := leadsTo_inExchange hq
    have hlt := leadsTo_exchangeLeft hq
    rw [ticksLeft_exchange (.inl hp), ticksLeft_exchange (c := c.goto q) (.inl hq')]
    exact Nat.succ_lt_succ (Nat.add_lt_add_left hlt _)
  | succeeds | answered | fails | openFaults | opens | disconnects | givesUp =>
    rwa [ticksLeft_idle rfl]
  | retries hq hop hb =>
    rw [ticksLeft_exchange (.inl hq), ticksLeft_exchange (c := c.goto .probeSleep) (.inr rfl)]
    exact Nat.succ_lt_succ (Nat.add_lt_add_left (exchangeLeft_pos hq) _)
  | exhausts hq hop hb =>
    have ha : c.attempt ≠ 0 := by
      rintro h0
      rw [h0] at hb
      exact absurd (hbound.trans hb) (by decide)
    have hx := exchangeLeft_pos hq
    rw [ticksLeft_exchange (.inl hq), ticksLeft_exhausted (c := c.goto .closing) rfl ha]
    omega
  | wakes hq =>
    have hb : c.attempt.toNat < c.probeBound := hc.sleep_bound hq
    have ha : (c.attempt + 1).toNat = c.attempt.toNat + 1 := attempt_succ hb
    rw [ticksLeft_exchange (.inr hq), ticksLeft_exchange (.inl rfl)]
    change 7 * (c.probeBound - (c.attempt + 1).toNat) + 6 + 1 < _
    omega
  | probes hq =>
    have ha : c.attempt.toNat = 0 := congrArg BitVec.toNat (hc.open_first hq)
    have ha' : (c.attempt + 1).toNat = c.attempt.toNat + 1 := attempt_succ (ha ▸ hbound)
    rw [ticksLeft_opening hq, ticksLeft_exchange (.inl rfl)]
    change 7 * (c.probeBound - (c.attempt + 1).toNat) + 6 + 1 < _
    omega
  | reopens hq hop ha =>
    rw [ticksLeft_reopening hq ha, ticksLeft_opening rfl]
    exact Nat.lt_succ_self _

/-- With as many transitions as it may take, an operation comes to rest. -/
theorem run_rests (k : Nat) {s : State} (hc : s.control.Orderly) (hk : s.control.ticksLeft ≤ k) :
    (s.run k).seq.resting = true := by
  induction k generalizing s with
  | zero =>
    cases hr : s.seq.resting with
    | true => exact hr
    | false => exact absurd (ticksLeft_pos (c := s.control) hr) (Nat.not_lt.2 hk)
  | succ k ih =>
    cases hr : s.seq.resting with
    | true => rwa [run_resting hr]
    | false =>
      have hm := tick_moves s hr
      rw [run_succ hr]
      exact ih (moves_orderly hm) (Nat.le_of_lt_succ ((moves_ticksLeft hm hc).trans_le hk))

theorem reaches_orderly {c c' : Control} (h : c.Reaches c') (hc : c.Orderly) : c'.Orderly :=
  h.keeps (P := Control.Orderly) (fun _ _ hm _ => moves_orderly hm) hc

/-- An orderly block whose sequencer rests is idle or fatal. -/
theorem resting_done {c : Control} (hc : c.Orderly) (hr : c.seq.resting = true) :
    c.busy = false ∨ c.fatal = true := by
  cases hq : c.seq with
  | idle => exact .inl (hc.idle_free hq)
  | fatal => exact .inr (hc.fatal_set hq)
  | encode | preclear | tx | txDrain | rxWait | decode | resync | opening | probeSleep | closing =>
    rw [hq] at hr
    contradiction

/-- Not looked at before its end, an operation ends. -/
theorem pursue_done {s : State} (hc : s.control.Orderly) (hb : s.burst = none) :
    s.pursue.busy = false ∨ s.pursue.fatal = true := by
  have hend : s.pursue.control = (s.run opTicks).control := by
    rw [State.pursue, settle_control, hb]
    rfl
  have hdone := resting_done (reaches_orderly (run_reaches opTicks s) hc)
    (run_rests opTicks hc (ticksLeft_le_opTicks s.control))
  rw [← hend] at hdone
  exact hdone

end Sys2Proof.Machine
end

section
/-! The obligations on the state, acceptance, sessions and registers. -/

namespace Sys2Proof.Machine

/-! ### Acceptance and the end of operations -/

/-- Settles O28: a descriptor presented to a block that is not ready is held. -/
theorem notAcceptedWhileBusyOrFatal : Obligations.NotAcceptedWhileBusyOrFatal := by
  intro i s hi hbf
  have hr : s.ready = false := hbf.elim ready_of_busy ready_of_fatal
  obtain ⟨t, ht, hp⟩ := exec_presented i s hi
  cases hp with
  | held => exact ht
  | fatal hr' | runs _ hr' => exact absurd hr' (by simp [hr])

/-- Settles O56: an orderly operation that is not looked at runs out of transitions. -/
theorem everyOperationEnds : Obligations.EveryOperationEnds := by
  intro i s hi hrest
  obtain ⟨hr, hb⟩ := hrest
  obtain ⟨t, ht, hp⟩ := exec_presented i s hi
  refine ⟨t, ht, ?_⟩
  cases hp with
  | held => exact .inl ((ready_iff s).1 hr).1
  | fatal => exact .inr rfl
  | runs u _ hs hub => exact pursue_done (starts_orderly hs) (hub.trans hb)

/-- Settles O29: with a request at hand or with nothing at hand, a busy block proceeds. -/
theorem busyStepHoldsDescriptor : Obligations.BusyStepHoldsDescriptor := by
  intro s i rest hb hi hreq
  have hq : i.isRequest = true := by
    rcases hreq with ⟨h, pay, rfl⟩ | ⟨d, rfl⟩ | ⟨c, rfl⟩ <;> rfl
  refine ⟨s.pulseOver.proceed, step_request_held (ready_of_busy hb) hi hq,
    proceed_inputs s.pulseOver, ?_⟩
  calc step { s with inputs := [] }
      = .next (s.pulseOver.inputsLeft []).proceed := step_nothing rfl
    _ = .next (s.pulseOver.proceed.inputsLeft []) := by rw [proceed_inputsLeft]

/-! ### The fatal state -/

theorem settle_blockOnly (s : State) : s.settle.blockOnly = s.blockOnly := by
  rcases settle_cases s with ⟨-, h⟩ | ⟨-, h⟩ | ⟨-, p, -, h⟩ <;> rw [h]
  rfl

/-- Nothing is in progress in a resting block. -/
theorem proceed_blockOnly {s : State} (hr : s.seq.resting = true) :
    s.proceed.blockOnly = s.blockOnly := by
  rw [State.proceed, run_resting hr, settle_blockOnly]

/-- Settles O31: a fatal block takes no descriptor and no register write, and its sequencer rests. -/
theorem fatalIsAbsorbing : Obligations.FatalIsAbsorbing := by
  intro s t hinv hf hi h
  have hseq : s.seq = .fatal := hinv.fatal_iff.1 hf
  have hbusy : s.busy = true := by
    by_contra hb
    cases (hinv.idle_iff.1 (by simpa using hb)).symm.trans hseq
  change t.blockOnly = s.pulseOver.blockOnly
  cases step_cases h with
  | proceeds => exact proceed_blockOnly (s := s.pulseOver) (congrArg Seq.resting hseq)
  | presents rest t hp =>
    have hr : s.ready = false := ready_of_fatal hf
    cases hp with
    | held => rfl
    | fatal hr' | runs _ hr' => exact absurd (hr.symm.trans hr') (by decide)
  | writes w rest =>
    rw [writeCfg_busy (s := s.pulseOver.inputsLeft rest) hbusy]
    rfl
  | resets rest hi' => exact absurd (congrArg List.head? hi') hi
  | environment t hb => exact hb

/-! ### Sessions -/

/-- A session exists only where a `CONNECT` has just succeeded. -/
structure Control.SessionIsNew (c : Control) : Prop where
  orderly : c.Orderly
  connected : c.sess = true →
    c.seq = .idle ∧ c.op = opConnect ∧ c.ok = true ∧ c.err = .noError ∧ c.busy = false

theorem starts_sess {c c' : Control} (h : c.Starts c') : c'.sess = c.sess := by
  cases h <;> rfl

theorem sessionIsNew_of_none {c : Control} (ho : c.Orderly) (hs : c.sess = false) :
    c.SessionIsNew :=
  ⟨ho, fun h => absurd (hs.symm.trans h) (by decide)⟩

theorem moves_sessionIsNew {c c' : Control} (h : c.Moves c') (hc : c.SessionIsNew) :
    c'.SessionIsNew := by
  have ho := moves_orderly h
  have hs : c.sess = false := by
    by_contra hs
    obtain ⟨hq, -⟩ := hc.connected (by simpa using hs)
    have hr := moves_not_resting h
    rw [hq] at hr
    contradiction
  cases h with
  | answered hq hop => exact ⟨ho, fun _ => ⟨rfl, hop, rfl, rfl, rfl⟩⟩
  | opens hq => exact ⟨ho, fun _ => ⟨rfl, hc.orderly.open_connects hq, rfl, rfl, rfl⟩⟩
  | forward | succeeds | fails | retries | exhausts | wakes | openFaults | probes =>
    exact sessionIsNew_of_none ho hs
  | reopens | givesUp | disconnects => exact sessionIsNew_of_none ho rfl

/-- Settles O40: the only moves that make a session are those with which a `CONNECT` succeeds. -/
theorem onlyConnectMakesSession : Obligations.OnlyConnectMakesSession := by
  intro s t hinv h hs ht
  have hnone (c : Control) (he : t.control.sess = c.sess) (hc : c.sess = false) : False :=
    absurd (hc.symm.trans (he.symm.trans ht)) (by decide)
  cases step_control h with
  | runs c hc hr =>
    have hnew : c.SessionIsNew := by
      rcases hc with rfl | hst
      · exact sessionIsNew_of_none hinv.orderly hs
      · exact sessionIsNew_of_none (starts_orderly hst) ((starts_sess hst).trans hs)
    have hend := hr.keeps (P := Control.SessionIsNew) (fun _ _ => moves_sessionIsNew) hnew
    exact (hend.connected ht).2
  | fatal he => exact (hnone _ (congrArg Control.sess he) hs).elim
  | writes w hi hb he => exact (hnone _ (congrArg Control.sess he) hs).elim
  | resets hi he => exact (hnone _ (congrArg Control.sess he) rfl).elim

/-! ### The timeout in force -/

/-- The timeout in force is `v`, or a `CONNECT` has copied `CFG_TIMEOUT` to it. -/
structure Control.TimeoutFrom (v : BitVec 16) (c : Control) : Prop where
  orderly : c.Orderly
  latched : c.lTimeout = v ∨ (c.lTimeout = c.cfg.timeout ∧ c.op = opConnect)

theorem starts_lTimeout {c c' : Control} (h : c.Starts c') : c'.lTimeout = c.lTimeout := by
  cases h <;> rfl

theorem moves_timeoutFrom {v : BitVec 16} {c c' : Control} (h : c.Moves c')
    (hc : c.TimeoutFrom v) : c'.TimeoutFrom v := by
  refine ⟨moves_orderly h, ?_⟩
  cases h with
  | openFaults hq | probes hq | opens hq => exact .inr ⟨rfl, hc.orderly.open_connects hq⟩
  | forward | succeeds | fails | answered | retries | exhausts | wakes | reopens | givesUp
  | disconnects => exact hc.latched

/-- Settles O52: `S_OPEN` alone changes the timeout in force, and it is entered by `CONNECT` only. -/
theorem timeoutLatchedByConnectOnly : Obligations.TimeoutLatchedByConnectOnly := by
  intro s t hinv h hne
  cases step_control h with
  | runs c hc hr =>
    have hfrom : c.TimeoutFrom s.lTimeout := by
      rcases hc with rfl | hst
      · exact ⟨hinv.orderly, .inl rfl⟩
      · exact ⟨starts_orderly hst, .inl (starts_lTimeout hst)⟩
    have hend := hr.keeps (P := Control.TimeoutFrom s.lTimeout) (fun _ _ => moves_timeoutFrom) hfrom
    exact .inl (hend.latched.resolve_left hne)
  | fatal he => exact absurd (congrArg Control.lTimeout he) hne
  | writes w hi hb he => exact absurd (congrArg Control.lTimeout he) hne
  | resets hi => exact .inr hi

/-! ### The control registers -/

theorem starts_cfg {c c' : Control} (h : c.Starts c') : c'.cfg = c.cfg := by
  cases h <;> rfl

theorem moves_cfg {c c' : Control} (h : c.Moves c') : c'.cfg = c.cfg := by
  cases h <;> rfl

/-- What a step that changes the control registers is. -/
theorem step_cfg_changed {s t : State} (h : step s = .next t) (hne : t.cfg ≠ s.cfg) :
    (∃ w, s.inputs.head? = some (.cfg w) ∧ s.busy = false ∧ t.cfg = s.cfg.write w) ∨
    (s.inputs.head? = some .reset ∧ t.cfg = { Cfg.reset with port := t.cfg.port }) := by
  cases step_control h with
  | runs c hc hr =>
    have hcfg : c.cfg = s.cfg := by
      rcases hc with rfl | hst
      · rfl
      · exact starts_cfg hst
    exact absurd (hr.keeps (P := (·.cfg = s.cfg)) (fun _ _ hm => (moves_cfg hm).trans) hcfg) hne
  | fatal he => exact absurd (congrArg Control.cfg he) hne
  | writes w hi hb he => exact .inl ⟨w, hi, hb, congrArg Control.cfg he⟩
  | resets hi he =>
    have hcfg : t.cfg = Cfg.reset := congrArg Control.cfg he
    exact .inr ⟨hi, by rw [hcfg]⟩

theorem hostReadCfg_idle {s : State} (hb : s.busy = false) (r : CfgReg) :
    s.hostReadCfg r = some (s.cfg.read r) := by
  simp [State.hostReadCfg, hb]

theorem hostReadFB_idle {s : State} (hb : s.busy = false) {i : Fin 259}
    (hi : i.val < s.flen.toNat) : s.hostReadFB i = some (s.fb.getD i.val 0) := by
  simp [State.hostReadFB, hb, hi]

/-- After an idle write the host reads what it wrote, and the other registers as before. -/
theorem hostReadCfg_writeCfg {s : State} (hb : s.busy = false) (w : CfgWrite) (r : CfgReg) :
    (s.writeCfg w).hostReadCfg r = if r = w.reg then some w else s.hostReadCfg r := by
  rw [writeCfg_idle hb, hostReadCfg_idle (by exact hb), hostReadCfg_idle hb, Cfg.read_write]
  exact apply_ite some _ _ _

/-- Settles O51: what changes the registers, what a write does, and what the host reads when. -/
theorem controlRegistersAreTheHosts : Obligations.ControlRegistersAreTheHosts := by
  refine ⟨fun s t => step_cfg_changed, fun s w rest => step_cfg,
    fun s w r hb => hostReadCfg_writeCfg hb w r, fun s r i hb => ?_, fun s i b hb hi hbyte => ?_,
    fun s => rfl, fun s r i j hb => ?_⟩
  · exact ⟨hostReadCfg_idle hb r, by simp [State.hostReadF, hb],
      by simp [State.hostReadFlen, hb]⟩
  · simp [hostReadFB_idle hb hi, hbyte]
  · simp [State.hostReadCfg, State.hostReadF, State.hostReadFlen, State.hostReadFB, hb]

/-! ### The frame in `FB` -/

/-- An operation that is over after one transition, with no caller to return to. -/
theorem pursue_of_tick_resting {u : State} (hb : u.burst = none) (hr : u.seq.resting = false)
    (ht : u.tick.seq.resting = true) (hc : u.tick.call = none) : u.pursue = u.tick := by
  have hrun : u.run opTicks = u.tick := (run_succ hr 127).trans (run_resting ht 127)
  rw [State.pursue, hb, Option.getD_none, hrun]
  simp [State.settle, hc]

/-- The latch of an `ENCODE` (R21). -/
def encodeLatch (n : BitVec 4) (cmd : Byte) (p : List Byte) : Latch where
  op := opEncode
  n := n
  cmd := cmd
  plen := BitVec.ofNat 8 p.length
  pay := p

/-- `ENCODE` from rest latches, marshals and succeeds (R125, R165). -/
theorem exec_encode_atRest {s : State} (hs : s.AtRest) (n : BitVec 4) (cmd : Byte)
    {p : List Byte} (hp : p.length ≤ 255) :
    exec (.encode n cmd p) s =
      .next ((s.accept (encodeLatch n cmd p) none).marshal cmd p).succeed := by
  obtain ⟨hr, hb⟩ := hs
  have hfits : payloadFits p = true := decide_eq_true hp
  let u := (s.accept (encodeLatch n cmd p) none).goto .encode
  have hpay : u.payloadInUse = p := by
    have hlen : (BitVec.ofNat 8 p.length).toNat = p.length := Nat.mod_eq_of_lt (by omega)
    change p.take (BitVec.ofNat 8 p.length).toNat = p
    rw [hlen, List.take_length]
  have htick : u.tick = ((s.accept (encodeLatch n cmd p) none).marshal cmd p).succeed := by
    change ((u.marshal cmd u.payloadInUse)).succeed = _
    rw [hpay]
    rfl
  have hpursue : u.pursue = u.tick := pursue_of_tick_resting hb rfl (by rw [htick]; rfl)
    (by rw [htick]; rfl)
  change Host.Outcome.next (s.submit (payloadFits p) u) = _
  rw [hfits, submit_wellFormed hr, hpursue, htick]

theorem frameOf_length (cmd : Byte) (p : List Byte) : (frameOf cmd p).length = 4 + p.length := by
  simp [frameOf, frameBody]
  omega

theorem marshal_flen_toNat (s : State) (cmd : Byte) {p : List Byte} (hp : p.length ≤ 255) :
    (s.marshal cmd p).flen.toNat = 4 + p.length :=
  Nat.mod_eq_of_lt (by change 4 + p.length < 512; omega)

/-- Settles O10: after `ENCODE` the block is idle and `FB` holds the frame. -/
theorem hostReadsEncodedFrame : Obligations.HostReadsEncodedFrame := by
  intro n cmd p s hp hs
  refine ⟨_, exec_encode_atRest hs n cmd hp, fun i hi => ?_⟩
  have hlen : i.val < (frameOf cmd p).length := by rwa [frameOf_length]
  rw [hostReadFB_idle rfl (by rw [succeed_flen, marshal_flen_toNat _ _ hp]; exact hi),
    List.getElem?_eq_getElem hlen]
  simp [hlen]

/-! ### Values -/

/-- Settles O49: the values of the reset table, row by row. -/
theorem resetValues : Obligations.ResetValues := by
  have hf : ∀ i : Fin 9, State.reset.f[i] = 0x00000000 := by decide
  exact ⟨rfl, rfl, rfl, rfl, rfl, rfl, rfl, hf, rfl, rfl, rfl, rfl, rfl, rfl, rfl, rfl, rfl, rfl,
    rfl, rfl, rfl, rfl, rfl, rfl, rfl, rfl⟩

/-- Four flags, a three-bit field and a four-bit field in a row, read back. -/
theorem packed_fields (f g b o : Bool) (e : BitVec 3) (q : BitVec 4) :
    let w := BitVec.ofBool f ++ BitVec.ofBool g ++ BitVec.ofBool b ++ BitVec.ofBool o ++ e ++ q
    w.getLsbD 10 = f ∧ w.getLsbD 9 = g ∧ w.getLsbD 8 = b ∧ w.getLsbD 7 = o ∧
      w.extractLsb' 4 3 = e ∧ w.extractLsb' 0 4 = q := by
  refine ⟨?flag10, ?flag9, ?flag8, ?flag7, ?err, ?seq⟩
  case err | seq =>
    ext i hi
    simp only [BitVec.getElem_extractLsb', BitVec.getLsbD_append]
    simp [hi, BitVec.getLsbD_eq_getElem]
  all_goals
    simp only [BitVec.getLsbD_append]
    simp

/-- Settles O53: the fields of `STATUS`, and the two code tables. -/
theorem statusFields : Obligations.StatusFields :=
  ⟨fun s => packed_fields s.fatal s.sess s.busy s.ok s.err.code s.seq.code, rfl, rfl⟩

/-- Settles O54: after reset the block is idle, so that most of the invariant asks nothing. -/
theorem resetSatisfiesInvariant : Obligations.ResetSatisfiesInvariant where
  idle_iff := ⟨fun _ => rfl, fun _ => rfl⟩
  fatal_iff := ⟨nofun, nofun⟩
  done_idle := nofun
  ok_err := nofun
  fatal_err := nofun
  fail_zero _ _ := rfl
  frame := .inl ⟨rfl, rfl⟩
  frame_sent := nofun
  rx_count := by decide
  payload_fits := by decide
  arity_legal := nofun
  receive_some := nofun
  decode_full := nofun
  resync_short := nofun
  admitted := ⟨nofun, nofun, nofun, nofun, nofun⟩
  session_open := nofun
  connecting := nofun
  attempt_bound := nofun
  sleep_bound := nofun
  open_first := nofun
  call_running h := absurd rfl h

/-! ### The step runs what is presented -/

theorem payloadFits_of_overlong {p : List Byte} (hp : 255 < p.length) : payloadFits p = false :=
  decide_eq_false (Nat.not_le.2 hp)

theorem arity_illegal {n : Nat} (hn : 9 < n) : decide (n ≤ Config.nMax) = false :=
  decide_eq_false (Nat.not_le.2 hn)

theorem exec_ofXfer_fatal {n : Nat} {cmd : Byte} {p : List Byte} {s : State} (hr : s.ready = true)
    (h : 255 < p.length ∨ 9 < n) : exec (.ofXfer n cmd p) s = .next s.enterFatal := by
  obtain ⟨c, hx⟩ := exec_ofXfer n cmd p s
  have hill : (payloadFits p && decide (n ≤ Config.nMax)) = false := by
    rcases h with hp | hn
    · rw [payloadFits_of_overlong hp, Bool.false_and]
    · rw [arity_illegal hn, Bool.and_false]
  rw [hx, State.issueXfer, hill, submit_illFormed hr]

/-- A record whose operation reads a payload or an arity that is too large is a programming error
(R111, R164). -/
theorem exec_toInstr_fatal {s : State} (hr : s.ready = true) (d : Descriptor)
    (h : (d.op ∈ [1, 3, 5] ∧ 255 < d.payload.length) ∨ (d.op ∈ [4, 5] ∧ 9 < d.n)) :
    exec d.toInstr s = .next s.enterFatal := by
  obtain ⟨op, n, cmd, p⟩ := d
  simp only [List.mem_cons, List.not_mem_nil, or_false] at h
  rcases h with ⟨rfl | rfl | rfl, hp⟩ | ⟨rfl | rfl, hn⟩
  case inl.inl | inl.inr.inl =>
    change Host.Outcome.next (s.submit (payloadFits p) _) = _
    rw [payloadFits_of_overlong hp, submit_illFormed hr]
  case inl.inr.inr => exact exec_ofXfer_fatal hr (.inl hp)
  case inr.inl =>
    change Host.Outcome.next (s.submit (decide (n ≤ Config.nMax)) _) = _
    rw [arity_illegal hn, submit_illFormed hr]
  case inr.inr => exact exec_ofXfer_fatal hr (.inr hn)

theorem toInstr_reserved (d : Descriptor) (h : d.op = 0 ∨ 8 ≤ d.op.toNat) :
    ∃ low, d.toInstr = .reservedOp d.op low := by
  obtain ⟨op, n, cmd, p⟩ := d
  have hop : op.toNat = 0 ∨ 8 ≤ op.toNat := h.imp_left (congrArg BitVec.toNat)
  unfold Descriptor.toInstr
  dsimp only
  split
  case h_8 => exact ⟨_, rfl⟩
  all_goals omega

/-- What a record names, operation code by operation code (R102 to R104, R110). -/
theorem toInstr_names (d : Descriptor) : ∃ (n : BitVec 4) (g : Ignored),
    (d.n < 16 → n.toNat = d.n) ∧
    (d.payload.length ≤ 255 → g.plen.toNat = d.payload.length) ∧
    g.bytes = d.payload.take g.plen.toNat ∧
    (d.op = 1 → d.toInstr = .encode n d.cmd d.payload) ∧
    (d.op = 2 → d.toInstr = .encodeNp n d.cmd g) ∧
    (d.op = 3 → d.toInstr = .send n d.cmd d.payload) ∧
    (d.op = 4 → d.toInstr = .recv d.n d.cmd g) ∧
    (d.op = 5 → d.toInstr = (Instr.xfer d.n d.cmd d.payload).canon) ∧
    (d.op = 6 → d.toInstr = .connect n d.cmd g) ∧
    (d.op = 7 → d.toInstr = .disconnect n d.cmd g) ∧
    (d.op = 0 ∨ 8 ≤ d.op.toNat → ∃ low, d.toInstr = .reservedOp d.op low) := by
  refine ⟨recordN d.n, ⟨recordPlen d.payload, d.payload.take (recordPlen d.payload).toNat⟩,
    recordN_toNat d.n, recordPlen_toNat d.payload, rfl, ?_, ?_, ?_, ?_, ?_, ?_, ?_,
    toInstr_reserved d⟩
  all_goals
    obtain ⟨op, n, cmd, p⟩ := d
    rintro rfl
    rfl

/-- Settles O5: the step runs what decodes or is named, and ill-formed records are fatal. -/
theorem stepRunsPresentedDescriptor : Obligations.StepRunsPresentedDescriptor := by
  refine ⟨fun s h pay left rest i hr hi hd => ?_, fun s d rest => step_record, toInstr_names,
    fun s d rest hr hi hbad => ?_⟩
  · exact ⟨(decodeDescriptor_wf hd).2, step_packed hr hi hd⟩
  · exact (step_record hr hi).trans
      (exec_toInstr_fatal (s := s.pulseOver.inputsLeft rest) hr d hbad)

/-- What is placed where the step fetches it is run first after reset. -/
theorem step_reset_placeCode {code : Code} {i : Instr} {left : List Byte}
    (hd : decode code = .ok (i, left)) :
    ∃ s : State, s.blockOnly = State.reset.blockOnly ∧
      step (State.reset.placeCode code) = exec i s := by
  cases code with
  | desc h pay => exact ⟨State.reset, rfl, step_packed rfl rfl hd⟩
  | wire bytes =>
    exact ⟨{ State.reset with tr := { State.reset.tr with wire := left } }, rfl,
      step_wire (s := State.reset.placeCode (.wire bytes)) rfl hd⟩

/-- Settles O7: a table word stands for a code, which the first step decodes. -/
theorem fetchWordRunsFirst : Obligations.FetchWordRunsFirst := by
  intro nbits w i h
  unfold decodeTableWord at h
  cases hd : decode (tableCode nbits w) with
  | error e => simp [hd] at h
  | ok r =>
    obtain ⟨j, left⟩ := r
    simp only [hd, Option.some.injEq] at h
    subst h
    exact step_reset_placeCode hd

end Sys2Proof.Machine
end

section
/-! SUPPORT. The fault-free course of an exchange, primitive by primitive. -/

namespace Sys2Proof.Machine

/-! ### The primitives on an open transport that reports no error -/

theorem primOk_of {s : State} (ho : s.tr.isOpen = true) (hf : s.answer.fault = false) :
    s.primOk = true :=
  (primOk_iff s).2 ⟨ho, hf⟩

theorem arrive_eq (t : Transport) (b : List Byte) :
    t.arrive b = { t with rxq := if t.isOpen then t.rxq ++ b else t.rxq } := by
  unfold Transport.arrive
  split <;> rfl

theorem arrive_open {t : Transport} (ho : t.isOpen = true) (b : List Byte) :
    t.arrive b = { t with rxq := t.rxq ++ b } := by
  rw [arrive_eq, if_pos ho]

theorem rxDiscard_done {s : State} (ho : s.tr.isOpen = true) (hf : s.answer.fault = false) :
    s.rxDiscard = (.done, s.withTransport { s.tr with rxq := [] }) := by
  simp [rxDiscard_open s ho, hf, afterDiscard]

theorem memWrite_done {s : State} (ho : s.tr.isOpen = true) (hf : s.answer.fault = false)
    (v : List Byte) : s.memWrite v = (.done, s.withTransport
      { s.tr with rxq := s.tr.rxq ++ s.answer.arrive, txq := s.tr.txq ++ v }) := by
  rcases memWrite_cases s v with ⟨-, h⟩ | ⟨h, -⟩
  · rw [h, arrive_open ho]
  · exact absurd (h.symm.trans (primOk_of ho hf)) (by decide)

theorem txDrain_done {s : State} (ho : s.tr.isOpen = true) (hf : s.answer.fault = false) :
    s.txDrain = (.done, s.withTransport { s.tr with
      rxq := s.tr.rxq ++ s.answer.arrive, txq := [], wire := s.tr.wire ++ s.tr.txq }) := by
  rcases txDrain_cases s with ⟨-, h⟩ | ⟨h, -⟩
  · rw [h, arrive_open ho]
  · exact absurd (h.symm.trans (primOk_of ho hf)) (by decide)

theorem written_done {s : State} (ho : s.tr.isOpen = true) (hf : s.answer.fault = false)
    (v : List Byte) : s.written v = v.length := by
  simp [State.written, primOk_of ho hf]

/-! ### The transitions that use them -/

/-- Once the pre-clear has returned `Done`, or is disabled, the frame is to be sent (R167). -/
theorem tickPreclear_goes {s : State} (ho : s.tr.isOpen = true)
    (hp : s.cfg.preclear = true → s.answer.fault = false) :
    s.tickPreclear = { s with
      txIdx := 0, seq := .tx, oracle := s.oracle.after s.beforeWrite,
      tr := { s.tr with rxq := if s.cfg.preclear then [] else s.tr.rxq } } := by
  cases hc : s.cfg.preclear with
  | true =>
    simp only [State.tickPreclear, State.beforeWrite, hc, rxDiscard_done ho (hp hc)]
    rfl
  | false =>
    simp [State.tickPreclear, State.beforeWrite, hc, State.handed, State.goto, oracle_after_zero]

/-- The whole frame joins `txq` (R168). -/
theorem tickTx_done {s : State} (ho : s.tr.isOpen = true) (hf : s.answer.fault = false) :
    s.tickTx = ((s.withTransport { s.tr with
      rxq := s.tr.rxq ++ s.answer.arrive, txq := s.tr.txq ++ s.fb }).handed s.fb.length).goto
        .txDrain := by
  simp [State.tickTx, memWrite_done ho hf, written_done ho hf]

/-- Everything written is on the wire, and a reply is awaited (R169). -/
theorem tickTxDrain_awaits {s : State} (ho : s.tr.isOpen = true) (hf : s.answer.fault = false)
    (hop : s.d.op ≠ opSend) (hn : s.d.n ≠ 0) :
    s.tickTxDrain = (s.withTransport { s.tr with
      rxq := s.tr.rxq ++ s.answer.arrive, txq := [], wire := s.tr.wire ++ s.tr.txq }).goto
        .rxWait := by
  have hn' : ¬ s.d.n = 0#4 := hn
  simp [State.tickTxDrain, txDrain_done ho hf, hop, hn']

theorem take_length_of_full {timeout : BitVec 16} {hand late : List Byte} {N : Nat}
    (hr : ReadIsFull timeout hand late N) : ((hand ++ late).take N).length = N := by
  rw [List.length_take, Nat.min_eq_left]
  rcases hr with h | ⟨-, h⟩
  · rw [List.length_append]
    omega
  · exact h

/-- A read that finds the whole reply stores it and goes on to decode it (R172, R173). -/
theorem tickRxWait_full {s : State} (ho : s.tr.isOpen = true)
    (hr : ReadIsFull s.lTimeout s.tr.rxq s.answer.arrive s.replySize) :
    s.tickRxWait = ((s.withTransport
      { s.tr with rxq := (s.tr.rxq ++ s.answer.arrive).drop s.replySize }).received
        ((s.tr.rxq ++ s.answer.arrive).take s.replySize)).goto .decode := by
  rw [State.tickRxWait, memRead_full s _ ho hr]
  exact if_pos (take_length_of_full hr)

theorem exchangeSucceeds_op {s : State} (hop : s.d.op ≠ opConnect) :
    s.exchangeSucceeds = s.succeed := by
  simp [State.exchangeSucceeds, hop]

/-- The state of an exchange with its frame made, before the pre-clear (R165). -/
def State.framed (s : State) : State := (s.marshal s.d.cmd s.payloadInUse).goto .preclear

theorem tickEncode_exchange {s : State} (hop : s.d.op ≠ opEncode ∧ s.d.op ≠ opEncodeNp) :
    s.tickEncode = s.framed := by
  simp [State.tickEncode, State.framed, hop.1, hop.2]

/-! A transition is that of the sequencer's state (R180). -/

theorem tick_encode {s : State} (hq : s.seq = .encode) : s.tick = s.tickEncode := by
  simp [State.tick, hq]

theorem tick_preclear {s : State} (hq : s.seq = .preclear) : s.tick = s.tickPreclear := by
  simp [State.tick, hq]

theorem tick_tx {s : State} (hq : s.seq = .tx) : s.tick = s.tickTx := by
  simp [State.tick, hq]

theorem tick_txDrain {s : State} (hq : s.seq = .txDrain) : s.tick = s.tickTxDrain := by
  simp [State.tick, hq]

theorem tick_rxWait {s : State} (hq : s.seq = .rxWait) : s.tick = s.tickRxWait := by
  simp [State.tick, hq]

theorem tick_decode {s : State} (hq : s.seq = .decode) : s.tick = s.tickDecode := by
  simp [State.tick, hq]

/-! ### Sending the frame -/

theorem drawn_answer (s : State) : s.drawn.answer = s.oracle.ahead 1 := oracle_after_ahead s.oracle 1 0

/-- With its frame made and no fault to come, an exchange that expects a reply sends the frame (R168,
R169). -/
theorem run_tx {s : State} (hq : s.seq = .tx) (ho : s.tr.isOpen = true)
    (hw : (s.oracle.ahead 0).fault = false) (hd : (s.oracle.ahead 1).fault = false)
    (hop : s.d.op ≠ opSend) (hn : s.d.n ≠ 0) :
    s.run 2 = { s with
      txIdx := BitVec.ofNat 9 s.fb.length, seq := .rxWait, oracle := s.oracle.after 2,
      tr := { s.tr with
        rxq := s.tr.rxq ++ (s.oracle.ahead 0).arrive ++ (s.oracle.ahead 1).arrive,
        txq := [], wire := s.tr.wire ++ (s.tr.txq ++ s.fb) } } := by
  have htx : s.tick = ((s.withTransport { s.tr with
      rxq := s.tr.rxq ++ (s.oracle.ahead 0).arrive, txq := s.tr.txq ++ s.fb }).handed
        s.fb.length).goto .txDrain := by
    rw [tick_tx hq, tickTx_done ho hw]
    rfl
  have hanswer : s.tick.answer = s.oracle.ahead 1 := by
    rw [htx]
    exact drawn_answer s
  have hdrain : s.tick.tick = (s.tick.withTransport { s.tick.tr with
      rxq := s.tick.tr.rxq ++ s.tick.answer.arrive, txq := [],
      wire := s.tick.tr.wire ++ s.tick.tr.txq }).goto .rxWait := by
    rw [tick_txDrain (by rw [htx]; rfl)]
    apply tickTxDrain_awaits
    · rw [htx]; exact ho
    · rw [hanswer]; exact hd
    · rw [htx]; exact hop
    · rw [htx]; exact hn
  rw [run_succ (by rw [hq]; rfl), run_succ (by rw [htx]; rfl)]
  rw [State.run, hdrain, hanswer, htx]
  simp only [State.goto, State.handed, State.withTransport, State.drawn, oracle_after_after]

/-- The state of an exchange when its frame is sent and the reply is awaited (R166, R171). -/
def State.awaitingReply (s : State) : State :=
  { s with
    txIdx := BitVec.ofNat 9 s.fb.length, seq := .rxWait,
    oracle := s.oracle.after s.sendAnswers, tr := s.trAfterSend s.fb }

/-- `DO_SEND` from the pre-clear on, for an exchange that expects a reply (R166). -/
theorem run_preclear {s : State} (hq : s.seq = .preclear) (hg : s.SendGoes)
    (hop : s.d.op ≠ opSend) (hn : s.d.n ≠ 0) :
    s.run 3 = s.awaitingReply := by
  obtain ⟨ho, hp, hw, hd⟩ := hg
  have hnext (k : Nat) : (s.oracle.after s.beforeWrite).ahead k = s.oracle.ahead (s.beforeWrite + k) :=
    oracle_after_ahead s.oracle s.beforeWrite k
  rw [run_succ (by rw [hq]; rfl), tick_preclear hq, tickPreclear_goes ho hp,
    run_tx (by rfl) (by exact ho) (by rw [hnext]; exact hw) (by rw [hnext]; exact hd) (by exact hop)
      (by exact hn)]
  simp only [hnext, oracle_after_after, State.awaitingReply, State.sendAnswers, State.trAfterSend,
    State.atHand, ho, Nat.add_zero]

/-! ### Reading the reply -/

/-- The state of an exchange that has read a whole reply of `N` bytes and is to decode it (R172, R173). -/
def State.replyRead (s : State) (N : Nat) : State :=
  { s.awaitingReply with
    rxb := (s.atHand ++ s.inWindow).take N, rxCnt := BitVec.ofNat 6 N, seq := .decode,
    oracle := s.oracle.after (s.sendAnswers + 1),
    tr := { s.trAfterSend s.fb with rxq := (s.atHand ++ s.inWindow).drop N } }

theorem tick_awaitingReply {s : State}
    (hr : ReadIsFull s.lTimeout s.atHand s.inWindow s.replySize) :
    s.awaitingReply.tick = s.replyRead s.replySize := by
  have hwindow : s.awaitingReply.answer.arrive = s.inWindow :=
    congrArg Answer.arrive (oracle_after_ahead s.oracle s.sendAnswers 0)
  have hread : ReadIsFull s.awaitingReply.lTimeout s.awaitingReply.tr.rxq
      s.awaitingReply.answer.arrive s.awaitingReply.replySize := by
    rw [hwindow]
    exact hr
  rw [tick_rxWait rfl, tickRxWait_full rfl hread, hwindow]
  change State.goto (State.received _ ((s.atHand ++ s.inWindow).take s.replySize)) _ = _
  simp only [State.received, take_length_of_full hr, State.goto, State.withTransport, State.drawn,
    State.awaitingReply, State.replyRead, oracle_after_after]
  rfl

theorem tick_replyRead {s : State} (hop : s.d.op = opXfer) :
    (s.replyRead s.replySize).tick = { s.replyRead s.replySize with
      f := loadFile s.f (unpack ((s.atHand ++ s.inWindow).take s.replySize)),
      ok := true, err := .noError, seq := .idle, busy := false, done := true } := by
  have hconnect : (s.replyRead s.replySize).decoded.d.op ≠ opConnect := by
    change s.d.op ≠ opConnect
    rw [hop]
    decide
  have hbytes : ((s.atHand ++ s.inWindow).take s.replySize).take s.replySize =
      (s.atHand ++ s.inWindow).take s.replySize := by rw [List.take_take, Nat.min_self]
  rw [tick_decode rfl, State.tickDecode, exchangeSucceeds_op hconnect]
  change State.succeed { s.replyRead s.replySize with
    f := loadFile s.f (unpack (((s.atHand ++ s.inWindow).take s.replySize).take s.replySize)) } = _
  rw [hbytes]
  rfl

/-- From the pre-clear on, an `XFER` whose read finds the whole reply ends with its values (R162, R173,
R174). -/
theorem run_xfer_reply {s : State} (hq : s.seq = .preclear) (hg : s.SendGoes)
    (hop : s.d.op = opXfer) (hn : s.d.n ≠ 0)
    (hr : ReadIsFull s.lTimeout s.atHand s.inWindow s.replySize) :
    s.run 5 = { s.replyRead s.replySize with
      f := loadFile s.f (unpack ((s.atHand ++ s.inWindow).take s.replySize)),
      ok := true, err := .noError, seq := .idle, busy := false, done := true } := by
  have hsend : s.d.op ≠ opSend := by rw [hop]; decide
  calc s.run 5
      = s.awaitingReply.run 2 := by rw [run_add 3 2, run_preclear hq hg hsend hn]
    _ = (s.replyRead s.replySize).run 1 := by rw [run_succ rfl, tick_awaitingReply hr]
    _ = _ := by rw [run_succ rfl, tick_replyRead hop, State.run]

/-! ### Accepting `SEND` and `XFER` -/

/-- The latch of a `SEND` (R21). -/
def sendLatch (n : BitVec 4) (cmd : Byte) (p : List Byte) : Latch where
  op := opSend
  n := n
  cmd := cmd
  plen := BitVec.ofNat 8 p.length
  pay := p

/-- A `SEND` at its first sequencer state (R160). -/
def State.sendEncoding (s : State) (n : BitVec 4) (cmd : Byte) (p : List Byte) : State :=
  (s.accept (sendLatch n cmd p) none).goto .encode

/-- An `XFER` at its first sequencer state (R162). -/
def State.xferEncoding (s : State) (n : Nat) (cmd : Byte) (p : List Byte) : State :=
  (s.accept (xferLatch n cmd p) none).clearResults.goto .encode

theorem xfer_marshals : opXfer ≠ opEncode ∧ opXfer ≠ opEncodeNp := by decide

theorem send_marshals : opSend ≠ opEncode ∧ opSend ≠ opEncodeNp := by decide

/-- A legal `SEND` in a session starts an exchange (R160, R164). -/
theorem exec_send_accepted {s : State} (n : BitVec 4) (cmd : Byte) {p : List Byte}
    (hp : p.length ≤ 255) (hr : s.ready = true) (hsess : s.sess = true) :
    exec (.send n cmd p) s = .next (s.sendEncoding n cmd p).pursue := by
  have hwf : payloadFits p = true := decide_eq_true hp
  have hstart : (s.accept (sendLatch n cmd p) none).startSend =
    s.sendEncoding n cmd p := if_pos hsess
  change Host.Outcome.next (s.submit _ (s.accept (sendLatch n cmd p) none).startSend) = _
  rw [hwf, submit_wellFormed hr, hstart]

/-- A legal `XFER` in a session clears the results and starts an exchange (R162, R164). -/
theorem exec_xfer_accepted {s : State} {n : Nat} (cmd : Byte) {p : List Byte}
    (hp : p.length ≤ 255) (hn : n ≤ 9) (hr : s.ready = true) (hsess : s.sess = true) :
    exec (.xfer n cmd p) s = .next (s.xferEncoding n cmd p).pursue := by
  have hwf : (payloadFits p && decide (n ≤ Config.nMax)) = true := by
    simp [payloadFits, Config.nMax, hp, hn]
  have hstart : (s.accept (xferLatch n cmd p) none).startXfer =
    s.xferEncoding n cmd p := if_pos hsess
  change Host.Outcome.next (s.submit _ (s.accept (xferLatch n cmd p) none).startXfer) = _
  rw [hwf, submit_wellFormed hr, hstart]

/-- The payload that an accepted exchange marshals is the one presented (R103). -/
theorem payloadInUse_xfer {s : State} {n : Nat} {cmd : Byte} {p : List Byte}
    (hd : s.d = xferLatch n cmd p) (hp : p.length ≤ 255) : s.payloadInUse = p := by
  have hlen : (BitVec.ofNat 8 p.length).toNat = p.length := Nat.mod_eq_of_lt (by omega)
  rw [State.payloadInUse, hd]
  change p.take (BitVec.ofNat 8 p.length).toNat = p
  rw [hlen, List.take_length]

theorem xferLatch_arity {n : Nat} (hn : n ≤ 9) (cmd : Byte) (p : List Byte) :
    (xferLatch n cmd p).n.toNat = n :=
  Nat.mod_eq_of_lt (by omega)

theorem xferLatch_some {n : Nat} (hn : 1 ≤ n) (hn9 : n ≤ 9) (cmd : Byte) (p : List Byte) :
    (xferLatch n cmd p).n ≠ 0 := by
  intro h
  have harity := xferLatch_arity hn9 cmd p
  have hzero : (xferLatch n cmd p).n.toNat = 0 := congrArg BitVec.toNat h
  omega

/-- An `XFER` with its frame made (R124, R165). -/
def State.xferFramed (s : State) (n : Nat) (cmd : Byte) (p : List Byte) : State :=
  ((s.xferEncoding n cmd p).marshal cmd p).goto .preclear

theorem tick_xferEncoding (s : State) (n : Nat) (cmd : Byte) {p : List Byte} (hp : p.length ≤ 255) :
    (s.xferEncoding n cmd p).tick = s.xferFramed n cmd p := by
  rw [tick_encode rfl, tickEncode_exchange xfer_marshals, State.framed, payloadInUse_xfer rfl hp]
  rfl

theorem run_xferFramed {s : State} {n : Nat} (cmd : Byte) (p : List Byte) (hn : 1 ≤ n)
    (hn9 : n ≤ 9) (hg : s.SendGoes)
    (hr : ReadIsFull s.lTimeout s.atHand s.inWindow (4 * n)) :
    (s.xferFramed n cmd p).run 5 = s.xferDone (xferLatch n cmd p) := by
  rw [← xferLatch_arity hn9 cmd p] at hr
  rw [run_xfer_reply (s := s.xferFramed n cmd p) rfl hg rfl (xferLatch_some hn hn9 cmd p) hr]
  change _ = { s.xferDone (xferLatch n cmd p) with txIdx := BitVec.ofNat 9 (4 + p.length) }
  rw [← frameOf_length cmd p]
  rfl

/-- An `XFER` from rest whose frame goes out and whose read finds the whole reply (R162, R181 (4)). -/
theorem exec_xfer_reply {s : State} {n : Nat} (cmd : Byte) {p : List Byte} (hp : p.length ≤ 255)
    (hn : 1 ≤ n) (hn9 : n ≤ 9) (hs : s.AtRest) (hsess : s.sess = true) (hg : s.SendGoes)
    (hr : ReadIsFull s.lTimeout s.atHand s.inWindow (4 * n)) :
    exec (.xfer n cmd p) s = .next (s.xferDone (xferLatch n cmd p)) := by
  obtain ⟨hready, hb⟩ := hs
  have hrun : (s.xferEncoding n cmd p).run opTicks = s.xferDone (xferLatch n cmd p) := by
    calc (s.xferEncoding n cmd p).run opTicks
        = ((s.xferFramed n cmd p).run 5).run 122 := by
          rw [show opTicks = (5 + 122) + 1 from rfl, run_succ rfl, tick_xferEncoding s n cmd hp,
            run_add]
      _ = s.xferDone (xferLatch n cmd p) := by
          rw [run_xferFramed cmd p hn hn9 hg hr, run_resting rfl]
  rw [exec_xfer_accepted cmd hp hn9 hready hsess]
  change Host.Outcome.next ((s.xferEncoding n cmd p).run (s.burst.getD opTicks)).settle = _
  rw [hb, Option.getD_none, hrun]
  rfl

/-! ### A conforming device -/

theorem arity_le_nine (e : RegEntry) : e.arity ≤ 9 := by
  cases e with
  | read n => cases n <;> decide
  | indexed | vector => decide

/-- Settles O48: with nothing at hand and a conforming reply in the window the read is full, and what
it takes is the whole reply. -/
theorem conformingReplyIsRead : Obligations.ConformingReplyIsRead := by
  intro cmd p e s hp he hn hs hsess hg hhand htimeout hconf
  have hlen : s.inWindow.length = 4 * e.arity := hconf e he
  have hbytes : s.atHand ++ s.inWindow = s.inWindow := by rw [hhand, List.nil_append]
  have hfull : ReadIsFull s.lTimeout s.atHand s.inWindow (4 * e.arity) := by
    refine .inr ⟨htimeout, ?_⟩
    rw [hbytes, hlen]
  have harity : (xferLatch e.arity cmd p).n.toNat = e.arity :=
    xferLatch_arity (arity_le_nine e) cmd p
  refine ⟨_, exec_xfer_reply cmd hp hn (arity_le_nine e) hs hsess hg hfull, rfl, ?_, ?_⟩
  · change loadFile zeroFile (unpack (s.replyBytes _)) = _
    rw [State.replyBytes, hbytes, harity, List.take_of_length_le hlen.le]
  · change (s.atHand ++ s.inWindow).drop (4 * _) = []
    rw [hbytes, harity, List.drop_of_length_le hlen.le]

/-! ### Stale bytes -/

/-- The same state with other bytes in `rxq`. -/
def State.withRxq (s : State) (q : List Byte) : State := { s with tr := { s.tr with rxq := q } }

/-- The first two transitions of an exchange whose pre-clear returns `Done` (R165, R167). -/
theorem tick_tick_clears {s : State} (hq : s.seq = .encode)
    (hop : s.d.op ≠ opEncode ∧ s.d.op ≠ opEncodeNp) (hc : s.cfg.preclear = true)
    (ho : s.tr.isOpen = true) (hf : s.answer.fault = false) :
    s.tick.tick = { s.marshal s.d.cmd s.payloadInUse with
      txIdx := 0, seq := .tx, oracle := s.oracle.after 1, tr := { s.tr with rxq := [] } } := by
  have hb : s.framed.beforeWrite = 1 := if_pos hc
  have hc' : s.framed.cfg.preclear = true := hc
  rw [tick_encode hq, tickEncode_exchange hop, tick_preclear rfl,
    tickPreclear_goes (s := s.framed) ho fun _ => hf, hb, if_pos hc']
  rfl

/-- An exchange whose pre-clear returns `Done` does not read what `rxq` held (R77). -/
theorem pursue_withRxq {s : State} (hq : s.seq = .encode)
    (hop : s.d.op ≠ opEncode ∧ s.d.op ≠ opEncodeNp) (hc : s.cfg.preclear = true)
    (ho : s.tr.isOpen = true) (hf : s.answer.fault = false) (hb : s.burst = none) (q : List Byte) :
    (s.withRxq q).pursue = s.pursue := by
  have hrun {t : State} (ht : t.seq = .encode) (hop : t.d.op ≠ opEncode ∧ t.d.op ≠ opEncodeNp) :
      t.run opTicks = t.tick.tick.run 126 := by
    have hnext : t.tick.seq = .preclear := by rw [tick_encode ht, tickEncode_exchange hop]; rfl
    rw [show opTicks = 126 + 1 + 1 from rfl, run_succ (by rw [ht]; rfl),
      run_succ (by rw [hnext]; rfl)]
  have hsame : (s.withRxq q).tick.tick = s.tick.tick := by
    rw [tick_tick_clears hq hop hc ho hf,
      tick_tick_clears (s := s.withRxq q) hq hop hc ho hf]
    rfl
  change ((s.withRxq q).run (s.burst.getD opTicks)).settle = (s.run (s.burst.getD opTicks)).settle
  rw [hb, Option.getD_none, hrun (t := s.withRxq q) hq hop, hrun hq hop, hsame]

/-- Settles O25: `XFER` and `SEND` both start with an exchange whose pre-clear empties `rxq`. -/
theorem staleBytesNeverRead : Obligations.StaleBytesNeverRead := by
  intro n m cmd p q s hp hn ⟨hr, hb⟩ hsess hc ho hf
  change exec _ (s.withRxq q) = _ ∧ exec _ (s.withRxq q) = _
  constructor
  · have hsame : ((s.xferEncoding n cmd p).withRxq q).pursue = (s.xferEncoding n cmd p).pursue :=
      pursue_withRxq (s := s.xferEncoding n cmd p) rfl xfer_marshals hc ho hf hb q
    rw [exec_xfer_accepted cmd hp hn hr hsess, ← hsame]
    exact exec_xfer_accepted (s := s.withRxq q) cmd hp hn hr hsess
  · have hsame : ((s.sendEncoding m cmd p).withRxq q).pursue = (s.sendEncoding m cmd p).pursue :=
      pursue_withRxq (s := s.sendEncoding m cmd p) rfl send_marshals hc ho hf hb q
    rw [exec_send_accepted m cmd hp hr hsess, ← hsame]
    exact exec_send_accepted (s := s.withRxq q) m cmd hp hr hsess

end Sys2Proof.Machine
end

section
/-! The wire. -/

namespace Sys2Proof.Machine

/-- The device's turn changes the environment only: the frame is taken, and the answer arrives while
the transport is open (R72, R122). -/
theorem deviceTakes_eq (s : State) (frame : List Byte) : s.deviceTakes frame = { s with
    oracle := s.oracle.after 1,
    tr := { s.tr with
      taken := s.tr.taken ++ [frame],
      rxq := if s.tr.isOpen then s.tr.rxq ++ (s.oracle.ahead 0).arrive else s.tr.rxq } } := by
  rw [State.deviceTakes, arrive_eq]
  rfl

/-- The two frames that the spec writes out, with their checksums (R107). -/
theorem frameOf_readQuat : frameOf 0x01 [] = [0xBB, 0x01, 0x00, 0xBC] := by decide
theorem frameOf_readRPY : frameOf 0x02 [] = [0xBB, 0x02, 0x00, 0xBD] := by decide

/-- A general frame: start, command, length, payload, checksum byte as sent (R90). -/
theorem wireFrame_eq (cmd : Byte) (p : List Byte) (chk : Byte) :
    wireFrame cmd p chk = [0xBB, cmd, BitVec.ofNat 8 p.length] ++ p ++ [chk] := rfl

/-- Settles O47: each wire row is the device's turn on its frame, whose bytes are written out. -/
theorem deviceTakesFrames : Obligations.DeviceTakesFrames := by
  intro s cmd pos chk val a b c p after
  have takes {i : Instr} {f frame : List Byte} (hi : exec i s = .next (s.deviceTakes f))
      (hf : f = frame) : exec i s = .next (after frame) := by
    rw [hi, hf, deviceTakes_eq]
  exact ⟨takes rfl (wireFrame_eq cmd [] chk), takes rfl (wireFrame_eq cmd (packB pos val) chk),
    takes rfl (wireFrame_eq cmd (packC a b c) chk), takes rfl (wireFrame_eq cmd p chk),
    takes rfl frameOf_readQuat, takes rfl frameOf_readRPY,
    takes rfl (wireFrame_eq Config.probeCmd [] chk)⟩

end Sys2Proof.Machine
end

section
/-! SUPPORT. An operation that is looked at on its way ends where it ends undisturbed. -/

namespace Sys2Proof.Machine

/-- The same state before an outside world that is looked at after `b` transitions. -/
def State.watched (s : State) (b : Option Nat) : State := { s with burst := b }

section Watched
variable (s : State) (b : Option Nat)

@[simp] theorem watched_watched (b' : Option Nat) : (s.watched b).watched b' = s.watched b' := rfl
@[simp] theorem watched_burst : (s.watched b).burst = b := rfl
@[simp] theorem watched_busy : (s.watched b).busy = s.busy := rfl
@[simp] theorem watched_call : (s.watched b).call = s.call := rfl
@[simp] theorem watched_control : (s.watched b).control = s.control := rfl

theorem run_watched (k : Nat) : (s.watched b).run k = (s.run k).watched b := by
  obtain ⟨hi, -, hc, hr⟩ := run_outside k s
  calc (s.watched b).run k
      = (s.run k).facing s.inputs b s.call s.ret := run_facing s s.inputs b s.call s.ret k
    _ = (s.run k).watched b := by rw [← hi, ← hc, ← hr]; rfl

theorem settle_watched : (s.watched b).settle = s.settle.watched b := by
  rcases settle_cases s with ⟨hb, h⟩ | ⟨hc, h⟩ | ⟨hb, p, hc, h⟩ <;> rw [h]
  · simp [State.settle, hb]
  · simp [State.settle, hc]
  · simp only [State.settle, watched_busy, watched_call, hb, hc]
    rfl

theorem pursue_watched : (s.watched b).pursue = ((s.run (b.getD opTicks)).settle).watched b := by
  rw [State.pursue, watched_burst, run_watched, settle_watched]

/-! The starts of the operations do not see when the outside world is looked at. -/

theorem startSend_watched : (s.watched b).startSend = s.startSend.watched b := by
  simp only [State.startSend, apply_ite (State.watched · b)]
  rfl

theorem startRecv_watched : (s.watched b).startRecv = s.startRecv.watched b := by
  simp only [State.startRecv, apply_ite (State.watched · b)]
  rfl

theorem startXfer_watched : (s.watched b).startXfer = s.startXfer.watched b := by
  simp only [State.startXfer, apply_ite (State.watched · b)]
  rfl

theorem startConnect_watched : (s.watched b).startConnect = s.startConnect.watched b := by
  simp only [State.startConnect, apply_ite (State.watched · b)]
  rfl

theorem startDisconnect_watched :
    (s.watched b).startDisconnect = s.startDisconnect.watched b := by
  simp only [State.startDisconnect, apply_ite (State.watched · b)]
  rfl

end Watched

/-- Presenting a descriptor to `s` submits an operation, the same one whenever the outside world is
next looked at. -/
def Submits (i : Instr) (s : State) : Prop :=
  ∃ (w : Bool) (x : State), ∀ b, exec i (s.watched b) = .next ((s.watched b).submit w (x.watched b))

/-- An operation is submitted the same way if its start does not see when the outside world is looked
at. -/
theorem submits_of_start {i : Instr} (s : State) (start : State → State) {w : Bool} {l : Latch}
    {c : Option Pending} (hstart : ∀ y b, start (State.watched y b) = (start y).watched b)
    (hexec : ∀ t, exec i t = .next (t.submit w (start (t.accept l c)))) : Submits i s :=
  ⟨w, start (s.accept l c), fun b => by rw [hexec, ← hstart]; rfl⟩

/-- Every descriptor but a reserved one submits an operation (R110). -/
theorem exec_submits (i : Instr) (s : State) (hi : i.isDescriptor = true) :
    (∀ t, exec i t = .next t) ∨ Submits i s := by
  have xfer (n : Nat) (cmd : Byte) (p : List Byte) (c : Option Pending)
      (h : ∀ t, exec i t = .next (t.issueXfer n cmd p c)) : Submits i s :=
    submits_of_start s State.startXfer startXfer_watched h
  cases i with
  | encode n cmd p =>
    exact .inr (submits_of_start s (State.goto · .encode) (fun _ _ => rfl) fun _ => rfl)
  | encodeNp n cmd g =>
    exact .inr (submits_of_start s (State.goto · .encode) (fun _ _ => rfl) fun _ => rfl)
  | send n cmd p => exact .inr (submits_of_start s State.startSend startSend_watched fun _ => rfl)
  | recv n cmd g => exact .inr (submits_of_start s State.startRecv startRecv_watched fun _ => rfl)
  | connect n cmd g =>
    exact .inr (submits_of_start s State.startConnect startConnect_watched fun _ => rfl)
  | disconnect n cmd g =>
    exact .inr (submits_of_start s State.startDisconnect startDisconnect_watched fun _ => rfl)
  | xfer n cmd p => exact .inr (xfer n cmd p none fun _ => rfl)
  | xferA n cmd => exact .inr (xfer n cmd [] none fun _ => rfl)
  | xferB cmd pos v => exact .inr (xfer 1 cmd (packB pos v) none fun _ => rfl)
  | xferC cmd a b c => exact .inr (xfer 0 cmd (packC a b c) none fun _ => rfl)
  | readQuat => exact .inr (xfer 4 0x01 [] _ fun _ => rfl)
  | readRPY => exact .inr (xfer 3 0x02 [] _ fun _ => rfl)
  | reservedOp op rest => exact .inl fun _ => rfl
  | frameA | frameB | frameC | frame | readQuatFrame | readRpyFrame | getFrameId =>
    contradiction

/-! ### The flags of an operation in progress -/

/-- The block is busy while its sequencer has transitions to make, and orderly. -/
structure Control.Engaged (c : Control) : Prop where
  orderly : c.Orderly
  working : c.seq.resting = false → c.busy = true

theorem Inv.engaged {s : State} (h : Inv s) : s.control.Engaged where
  orderly := h.orderly
  working hr := by
    by_contra hb
    have hq : s.seq = .idle := h.idle_iff.1 (by simpa [State.control] using hb)
    have hr' : s.seq.resting = false := hr
    rw [hq] at hr'
    contradiction

theorem starts_engaged {c c' : Control} (h : c.Starts c') : c'.Engaged := by
  refine ⟨starts_orderly h, ?_⟩
  cases h with
  | exchange | connects | disconnects => exact fun _ => rfl
  | succeeds | fails => exact nofun

theorem moves_engaged {c c' : Control} (h : c.Moves c') (hc : c.Engaged) : c'.Engaged := by
  have hb : c.busy = true := hc.working (moves_not_resting h)
  refine ⟨moves_orderly h, ?_⟩
  cases h with
  | forward | retries | exhausts | wakes | probes | reopens => exact fun _ => hb
  | succeeds | answered | opens | disconnects | fails | openFaults | givesUp => exact nofun

theorem reaches_engaged {c c' : Control} (h : c.Reaches c') (hc : c.Engaged) : c'.Engaged :=
  h.keeps (P := Control.Engaged) (fun _ _ => moves_engaged) hc

theorem presented_engaged {s t : State} (h : Presented s t) (hs : s.control.Engaged) :
    t.control.Engaged := by
  cases h with
  | held => exact hs
  | fatal => exact ⟨⟨nofun, fun _ => rfl, nofun, nofun, nofun⟩, nofun⟩
  | runs u _ hst _ => exact reaches_engaged (pursue_reaches u) (starts_engaged hst)

/-- Presented to a ready block, a descriptor leads to an engaged state, from which its operation goes
on until the outside world is looked at. -/
theorem exec_pursues {i : Instr} {s : State} (hi : i.isDescriptor = true) (hinv : Inv s)
    (hr : s.ready = true) :
    ∃ x : State, x.control.Engaged ∧ ∀ b, exec i (s.watched b) = .next (x.watched b).pursue := by
  have rests {x : State} (hq : x.seq.resting = true) (hset : x.settle = x) (b : Option Nat) :
      (x.watched b).pursue = x.watched b := by
    rw [pursue_watched, run_resting hq, hset]
  rcases exec_submits i s hi with hheld | ⟨w, x, hx⟩
  · have hidle : s.seq.resting = true := by
      rw [hinv.idle_iff.1 ((ready_iff s).1 hr).1]
      rfl
    have hset : s.settle = s := by
      rcases settle_cases s with ⟨-, h⟩ | ⟨-, h⟩ | ⟨hb, p, hc, -⟩
      · exact h
      · exact h
      · have hbusy := (hinv.call_running (by simp [hc])).1
        exact absurd (hbusy.symm.trans hb) (by decide)
    exact ⟨s, hinv.engaged, fun b => by rw [hheld, rests hidle hset]⟩
  have hr' (b : Option Nat) : (s.watched b).ready = true := hr
  cases w with
  | false =>
    have hfatal : Presented s s.enterFatal := .fatal hr
    refine ⟨s.enterFatal, presented_engaged hfatal hinv.engaged, fun b => ?_⟩
    rw [hx, submit_illFormed (hr' b), rests rfl rfl]
    rfl
  | true =>
    have hexec (b : Option Nat) : exec i (s.watched b) = .next (x.watched b).pursue := by
      rw [hx, submit_wellFormed (hr' b)]
    refine ⟨x, ?_, hexec⟩
    -- Looked at before its first transition, the block shows the control part it was started with.
    obtain ⟨t, ht, hp⟩ := exec_presented i (s.watched (some 0)) hi
    cases (hexec (some 0)).symm.trans ht
    have hstarted := presented_engaged hp hinv.engaged
    rwa [pursue_watched, watched_control, settle_control] at hstarted

/-! ### Going on after a look -/

theorem settle_settle (s : State) : s.settle.settle = s.settle := by
  rcases settle_cases s with ⟨-, h⟩ | ⟨-, h⟩ | ⟨hb, p, -, h⟩
  · rw [h, h]
  · rw [h, h]
  · rw [h]
    simp only [State.settle, returned_busy, hb, returned_call]
    rfl

/-- Between two transitions there is nothing for a typed call to return yet, and where there is, the
operation is over. -/
theorem settle_run_settle {s : State} (hs : s.control.Engaged) (k : Nat) :
    (s.settle.run k).settle = (s.run k).settle := by
  cases hb : s.busy with
  | true =>
    have hset : s.settle = s := by simp [State.settle, hb]
    rw [hset]
  | false =>
    have hq : s.seq.resting = true := by
      by_contra hr
      have hbusy : s.busy = true := hs.working (Bool.eq_false_iff.2 hr)
      exact absurd (hbusy.symm.trans hb) (by decide)
    have hq' : s.settle.seq.resting = true := by
      rwa [show s.settle.seq = s.seq from congrArg Control.seq (settle_control s)]
    rw [run_resting hq', run_resting hq, settle_settle]

/-- Further transitions than it can have do nothing to an operation. -/
theorem run_opTicks_add {s : State} (hs : s.control.Orderly) (k : Nat) :
    s.run (opTicks + k) = s.run opTicks := by
  rw [run_add, run_resting (run_rests opTicks hs (ticksLeft_le_opTicks s.control))]

/-- An engaged operation that was looked at after `k` transitions ends as if it had not been. -/
theorem proceed_after_look {x : State} (hx : x.control.Engaged) (k : Nat) :
    ((x.watched (some k)).pursue.watched none).proceed = (x.watched none).pursue := by
  have hlook : (x.watched (some k)).pursue.watched none = ((x.run k).settle).watched none := by
    rw [pursue_watched, watched_watched]
    rfl
  have hk : (x.run k).control.Engaged := reaches_engaged (run_reaches k x) hx
  calc ((x.watched (some k)).pursue.watched none).proceed
      = (((x.run k).settle.watched none).run opTicks).settle := by rw [hlook]; rfl
    _ = (((x.run k).settle.run opTicks).settle).watched none := by
        rw [run_watched, settle_watched]
    _ = (x.run (opTicks + k)).settle.watched none := by
        rw [settle_run_settle hk, ← run_add, Nat.add_comm]
    _ = (x.run opTicks).settle.watched none := by rw [run_opTicks_add hx.orderly]
    _ = (x.watched none).pursue := by rw [pursue_watched]; rfl

/-- Settles O57: stopped and uninterrupted operation start in one state, and runs compose. -/
theorem lookingInIsHarmless : Obligations.LookingInIsHarmless := by
  intro i s t u k hinv hi ⟨hr, hb⟩ ht hu
  obtain ⟨x, hx, hexec⟩ := exec_pursues hi hinv hr
  have hs : s.watched none = s := by rw [← hb]; rfl
  have ht' := hexec none
  rw [hs, ht] at ht'
  cases ht'
  cases hu.symm.trans (hexec (some k))
  exact proceed_after_look hx k

end Sys2Proof.Machine
end

section
/-! SUPPORT. The descriptor header as a number, field by field, and the decoders on what the encoder
writes and on what they accept. -/

namespace Sys2Proof

/-! ### Words as numbers -/

/-- A word put together from two: the left part is the upper one. -/
theorem append_toNat {v w : Nat} (x : BitVec v) (y : BitVec w) :
    (x ++ y).toNat = x.toNat * 2 ^ w + y.toNat := by
  rw [BitVec.toNat_append, ← Nat.shiftLeft_add_eq_or_of_lt y.isLt, Nat.shiftLeft_eq]

/-- A field of `k` bits from bit `lo` up. -/
theorem field_toNat {w : Nat} (x : BitVec w) (lo k : Nat) :
    (x.extractLsb' lo k).toNat = x.toNat / 2 ^ lo % 2 ^ k := by
  rw [BitVec.extractLsb'_toNat, Nat.shiftRight_eq_div_pow]

theorem header_toNat (op n : BitVec 4) (cmd plen : Byte) : (header op n cmd plen).toNat =
    ((op.toNat * 2 ^ 4 + n.toNat) * 2 ^ 8 + cmd.toNat) * 2 ^ 8 + plen.toNat := by
  simp only [header, append_toNat]

/-! ### The fields of a header (R102) -/

section Fields
variable (op n : BitVec 4) (cmd plen : Byte)

@[simp] theorem headerOp_header : headerOp (header op n cmd plen) = op := by
  apply BitVec.eq_of_toNat_eq
  rw [headerOp, field_toNat, header_toNat]
  omega

@[simp] theorem headerN_header : headerN (header op n cmd plen) = n := by
  apply BitVec.eq_of_toNat_eq
  rw [headerN, field_toNat, header_toNat]
  omega

@[simp] theorem headerCmd_header : headerCmd (header op n cmd plen) = cmd := by
  apply BitVec.eq_of_toNat_eq
  rw [headerCmd, field_toNat, header_toNat]
  omega

@[simp] theorem headerPlen_header : headerPlen (header op n cmd plen) = plen := by
  apply BitVec.eq_of_toNat_eq
  rw [headerPlen, field_toNat, header_toNat]
  omega

end Fields

@[simp] theorem headerOp_append (op : BitVec 4) (rest : BitVec 20) :
    headerOp (op ++ rest) = op := by
  apply BitVec.eq_of_toNat_eq
  rw [headerOp, field_toNat, append_toNat]
  omega

@[simp] theorem headerRest_append (op : BitVec 4) (rest : BitVec 20) :
    headerRest (op ++ rest) = rest := by
  apply BitVec.eq_of_toNat_eq
  rw [headerRest, field_toNat, append_toNat]
  omega

/-- A header is its four fields. -/
theorem header_fields {h : Header} {op : BitVec 4} (hop : (headerOp h).toNat = op.toNat) :
    header op (headerN h) (headerCmd h) (headerPlen h) = h := by
  apply BitVec.eq_of_toNat_eq
  rw [header_toNat, ← hop, headerOp, headerN, headerCmd, headerPlen]
  simp only [field_toNat]
  omega

/-- A header is its operation code and what is below it. -/
theorem headerOp_append_headerRest (h : Header) : headerOp h ++ headerRest h = h := by
  apply BitVec.eq_of_toNat_eq
  rw [append_toNat, headerOp, headerRest]
  simp only [field_toNat]
  omega

/-- The operation code is what is left of a header above its low 20 bits. -/
theorem headerOp_toNat (h : Header) : (headerOp h).toNat = h.toNat / 2 ^ 20 := by
  rw [headerOp, field_toNat]
  omega

/-! ### Payloads -/

/-- Putting a binary32 pattern together from its bytes gives it back (R10). -/
theorem le32_bytesLE (v : F32) :
    le32 (v.extractLsb' 0 8) (v.extractLsb' 8 8) (v.extractLsb' 16 8) (v.extractLsb' 24 8) = v := by
  apply BitVec.eq_of_toNat_eq
  simp only [le32, append_toNat, field_toNat]
  omega

theorem packB_fits (pos : Byte) (val : F32) : (packB pos val).length ≤ 255 :=
  show 5 ≤ 255 by decide

theorem packC_fits (a b c : F32) : (packC a b c).length ≤ 255 :=
  show 12 ≤ 255 by decide

theorem ofXfer_packB (cmd pos : Byte) (val : F32) :
    Instr.ofXfer 1 cmd (packB pos val) = .xferB cmd pos val := by
  simp [Instr.ofXfer, packB, bytesLE, le32_bytesLE]

theorem ofXfer_packC (cmd : Byte) (a b c : F32) :
    Instr.ofXfer 0 cmd (packC a b c) = .xferC cmd a b c := by
  simp [Instr.ofXfer, packC, bytesLE, le32_bytesLE]

theorem ofFrame_packB (cmd pos : Byte) (val : F32) (chk : Byte) :
    Instr.ofFrame cmd (packB pos val) chk = .frameB cmd pos val chk := by
  simp [Instr.ofFrame, packB, bytesLE, le32_bytesLE]

theorem ofFrame_packC (cmd : Byte) (a b c : F32) (chk : Byte) :
    Instr.ofFrame cmd (packC a b c) chk = .frameC cmd a b c chk := by
  simp [Instr.ofFrame, packC, bytesLE, le32_bytesLE]

/-- A length that fits the one length byte is kept by it (R91). -/
theorem lengthByte_toNat {p : List Byte} (hp : p.length ≤ 255) :
    (BitVec.ofNat 8 p.length).toNat = p.length :=
  Nat.mod_eq_of_lt (by omega)

/-- The payload lines that a descriptor uses are as many as its `plen` says, if there are enough. -/
theorem lengthByte_take {plen : Byte} {pay : List Byte} (h : ¬ pay.length < plen.toNat) :
    BitVec.ofNat 8 (pay.take plen.toNat).length = plen := by
  rw [List.length_take, Nat.min_eq_left (Nat.not_lt.1 h), BitVec.ofNat_toNat, BitVec.setWidth_eq]

/-! ### Descriptors -/

/-- What decoding makes of the word of an `XFER` (R102, R114). -/
theorem decode_encode_xfer {n : Nat} (cmd : Byte) {p : List Byte} (hn : n < 16)
    (hp : p.length ≤ 255) : decode (encode (.xfer n cmd p)) = .ok (.ofXfer n cmd p, []) := by
  have hn' : n % 16 = n := Nat.mod_eq_of_lt hn
  have hp' : p.length % 256 = p.length := Nat.mod_eq_of_lt (by omega)
  simp [decode, encode, decodeDescriptor, hn', hp']

/-- A reserved operation code takes no payload lines (R110). -/
theorem decodeDescriptor_reserved {h : Header} (pay : List Byte)
    (hop : isReservedOp (headerOp h) = true) :
    decodeDescriptor h pay = .ok (.reservedOp (headerOp h) (headerRest h), pay) := by
  have hop' : (headerOp h).toNat = 0 ∨ 8 ≤ (headerOp h).toNat := of_decide_eq_true hop
  unfold decodeDescriptor
  dsimp only
  split
  case h_8 => rfl
  all_goals omega

/-! ### Frames -/

theorem decodeFrame_wireFrame (cmd : Byte) {p : List Byte} (chk : Byte) (left : List Byte)
    (hp : p.length ≤ 255) :
    decodeFrame (wireFrame cmd p chk ++ left) = .ok (.ofFrame cmd p chk, left) := by
  have hp' : p.length % 256 = p.length := Nat.mod_eq_of_lt (by omega)
  simp [decodeFrame, wireFrame, frameBody, hp']

/-- What decoding makes of the word of a `FRAME` (R90). -/
theorem decode_encode_frame (cmd : Byte) {p : List Byte} (chk : Byte) (hp : p.length ≤ 255) :
    decode (encode (.frame cmd p chk)) = .ok (.ofFrame cmd p chk, []) := by
  have h := decodeFrame_wireFrame cmd chk [] hp
  rwa [List.append_nil] at h

/-- A whole frame is a start marker, a command, a length byte, as many payload bytes and a checksum
byte (R90, R94). -/
theorem decodeFrame_ok {bytes left : List Byte} {i : Instr}
    (hd : decodeFrame bytes = .ok (i, left)) : ∃ cmd p chk, p.length ≤ 255 ∧
      i = .ofFrame cmd p chk ∧ bytes = wireFrame cmd p chk ++ left := by
  unfold decodeFrame at hd
  split at hd
  case h_1 => cases hd
  case h_2 b0 tail =>
    split at hd
    · cases hd
    have hstart : b0 = Config.start := not_not.1 ‹¬ b0 ≠ Config.start›
    split at hd
    case h_2 => cases hd
    case h_1 cmd len rest =>
      split at hd
      case h_1 => cases hd
      case h_2 chk left' hrest =>
        cases hd
        have henough : ¬ rest.length < len.toNat := by
          have hdrop := congrArg List.length hrest
          rw [List.length_drop, List.length_cons] at hdrop
          omega
        have hsplit : rest = rest.take len.toNat ++ chk :: left := by
          rw [← hrest, List.take_append_drop]
        refine ⟨cmd, rest.take len.toNat, chk, ?_, rfl, ?_⟩
        · rw [List.length_take]
          omega
        · simp only [wireFrame, frameBody, lengthByte_take henough, hstart, List.cons_append,
            List.append_assoc, List.nil_append, ← hsplit]

/-! ### The round trip -/

/-- Decoding an encoding answers the most specific row of its word and uses all of it. Each row outside
the families of `XFER` and `FRAME` is alone with its word. -/
theorem decode_encode (i : Instr) (hi : i.wf = true) : decode (encode i) = .ok (i.canon, []) := by
  cases i with
  | encode n cmd p | send n cmd p =>
    have hp : p.length ≤ 255 := of_decide_eq_true hi
    have hp' : p.length % 256 = p.length := Nat.mod_eq_of_lt (by omega)
    simp [decode, encode, decodeDescriptor, Instr.canon, hp']
  | encodeNp n cmd g | connect n cmd g | disconnect n cmd g =>
    have hg : g.bytes.length ≤ g.plen.toNat := of_decide_eq_true hi
    simp [decode, encode, decodeDescriptor, Instr.canon, List.take_of_length_le hg,
      List.drop_of_length_le hg]
  | recv n cmd g =>
    simp only [Instr.wf, Bool.and_eq_true] at hi
    obtain ⟨hn, hg⟩ := hi
    have hn' : n % 16 = n := Nat.mod_eq_of_lt (of_decide_eq_true hn)
    have hg : g.bytes.length ≤ g.plen.toNat := of_decide_eq_true hg
    simp [decode, encode, decodeDescriptor, Instr.canon, hn', List.take_of_length_le hg,
      List.drop_of_length_le hg]
  | reservedOp op rest =>
    have hop : isReservedOp (headerOp (op ++ rest)) = true := by rwa [headerOp_append]
    rw [encode, decode, decodeDescriptor_reserved [] hop, headerOp_append, headerRest_append]
    rfl
  | xfer n cmd p =>
    simp only [Instr.wf, Bool.and_eq_true] at hi
    obtain ⟨hn, hp⟩ := hi
    exact decode_encode_xfer cmd (of_decide_eq_true hn) (of_decide_eq_true hp)
  | xferA n cmd => exact decode_encode_xfer cmd (p := []) (of_decide_eq_true hi) (Nat.zero_le _)
  | xferB cmd pos val =>
    have h := decode_encode_xfer (n := 1) cmd (by decide) (packB_fits pos val)
    rwa [ofXfer_packB] at h
  | xferC cmd a b c =>
    have h := decode_encode_xfer (n := 0) cmd (by decide) (packC_fits a b c)
    rwa [ofXfer_packC] at h
  | readQuat =>
    rw [show encode .readQuat = encode (.xfer 4 0x01 []) by decide]
    exact decode_encode_xfer (n := 4) 0x01 (p := []) (by decide) (by decide)
  | readRPY =>
    rw [show encode .readRPY = encode (.xfer 3 0x02 []) by decide]
    exact decode_encode_xfer (n := 3) 0x02 (p := []) (by decide) (by decide)
  | frame cmd p chk => exact decode_encode_frame cmd chk (of_decide_eq_true hi)
  | frameA cmd chk => exact decode_encode_frame cmd (p := []) chk (Nat.zero_le _)
  | frameB cmd pos val chk =>
    have h := decode_encode_frame cmd chk (packB_fits pos val)
    rwa [ofFrame_packB] at h
  | frameC cmd a b c chk =>
    have h := decode_encode_frame cmd chk (packC_fits a b c)
    rwa [ofFrame_packC] at h
  | readQuatFrame => exact decode_encode_frame 0x01 (p := []) 0xBC (by decide)
  | readRpyFrame => exact decode_encode_frame 0x02 (p := []) 0xBD (by decide)
  | getFrameId chk => exact decode_encode_frame Config.probeCmd (p := []) chk (by decide)

/-! ### The most specific spelling -/

theorem ofFrame_wf (cmd : Byte) {p : List Byte} (chk : Byte) (hp : p.length ≤ 255) :
    (Instr.ofFrame cmd p chk).wf = true := by
  unfold Instr.ofFrame
  split
  case h_1 =>
    repeat' split
    all_goals rfl
  case h_2 | h_3 => rfl
  case h_4 => exact decide_eq_true hp

theorem canon_wf {i : Instr} (hi : i.wf = true) : i.canon.wf = true := by
  cases i with
  | xfer n cmd p =>
    simp only [Instr.wf, Bool.and_eq_true] at hi
    obtain ⟨hn, hp⟩ := hi
    exact Machine.ofXfer_wf cmd (of_decide_eq_true hn) (of_decide_eq_true hp)
  | xferA n cmd => exact Machine.ofXfer_wf cmd (p := []) (of_decide_eq_true hi) (Nat.zero_le _)
  | frame cmd p chk => exact ofFrame_wf cmd chk (of_decide_eq_true hi)
  | frameA cmd chk => exact ofFrame_wf cmd (p := []) chk (Nat.zero_le _)
  | getFrameId chk => exact ofFrame_wf Config.probeCmd (p := []) chk (Nat.zero_le _)
  | encode | encodeNp | send | recv | connect | disconnect | xferB | xferC | frameB | frameC
  | readQuatFrame | readRpyFrame | readQuat | readRPY | reservedOp => exact hi

theorem encode_canon (i : Instr) : encode i.canon = encode i := by
  cases i with
  | xfer n cmd p => exact Laws.CanonSameWord.xfer n cmd p
  | xferA n cmd => exact Laws.CanonSameWord.xferA n cmd
  | frame cmd p chk => exact Laws.CanonSameWord.frame cmd p chk
  | frameA cmd chk => exact Laws.CanonSameWord.frameA cmd chk
  | getFrameId chk => exact Laws.CanonSameWord.getFrameId chk
  | encode | encodeNp | send | recv | connect | disconnect | xferB | xferC | frameB | frameC
  | readQuatFrame | readRpyFrame | readQuat | readRPY | reservedOp => rfl

/-- The most specific spelling is its own: decoding answers it for the word that the two share. -/
theorem canon_canon {i : Instr} (hi : i.wf = true) : i.canon.canon = i.canon := by
  have hword := decode_encode i.canon (canon_wf hi)
  rw [encode_canon, decode_encode i hi, Except.ok.injEq, Prod.mk.injEq] at hword
  obtain ⟨hcanon, -⟩ := hword
  exact hcanon.symm

/-! ### What decodes -/

/-- What decodes is the most specific spelling of some row whose word is the part of the input that
was used. -/
theorem decodeDescriptor_spells {h : Header} {pay left : List Byte} {i : Instr}
    (hd : decodeDescriptor h pay = .ok (i, left)) : ∃ j used, j.wf = true ∧ i = j.canon ∧
      encode j = .desc h used ∧ pay = used ++ left := by
  have hfits : payloadFits (pay.take (headerPlen h).toNat) = true :=
    decide_eq_true (Machine.takePlen_length (headerPlen h) pay)
  have hign := Machine.takePlen_fits (headerPlen h) pay
  have hn := Machine.arityFits_toNat (headerN h)
  have hsplit := (List.take_append_drop (headerPlen h).toNat pay).symm
  unfold decodeDescriptor at hd
  dsimp only at hd
  split at hd
  case h_1 hop =>
    split at hd <;> cases hd
    have hlen := lengthByte_take (of_decide_eq_false (Bool.eq_false_iff.2 ‹_›))
    refine ⟨.encode (headerN h) (headerCmd h) _, _, hfits, rfl, ?_, hsplit⟩
    rw [encode, hlen, header_fields hop]
  case h_3 hop =>
    split at hd <;> cases hd
    have hlen := lengthByte_take (of_decide_eq_false (Bool.eq_false_iff.2 ‹_›))
    refine ⟨.send (headerN h) (headerCmd h) _, _, hfits, rfl, ?_, hsplit⟩
    rw [encode, hlen, header_fields hop]
  case h_5 hop =>
    split at hd <;> cases hd
    have hlen := lengthByte_take (of_decide_eq_false (Bool.eq_false_iff.2 ‹_›))
    refine ⟨.xfer (headerN h).toNat (headerCmd h) _, _, ?_, rfl, ?_, hsplit⟩
    · rw [Instr.wf, hn, hfits, Bool.and_self]
    · rw [encode, hlen, BitVec.ofNat_toNat, BitVec.setWidth_eq, header_fields hop]
  case h_4 hop =>
    cases hd
    refine ⟨.recv (headerN h).toNat (headerCmd h) _, _, ?_, rfl, ?_, hsplit⟩
    · rw [Instr.wf, hn, hign, Bool.and_self]
    · rw [encode, BitVec.ofNat_toNat, BitVec.setWidth_eq, header_fields hop]
  case h_2 hop =>
    cases hd
    refine ⟨.encodeNp (headerN h) (headerCmd h) _, _, hign, rfl, ?_, hsplit⟩
    rw [encode, header_fields hop]
  case h_6 hop =>
    cases hd
    refine ⟨.connect (headerN h) (headerCmd h) _, _, hign, rfl, ?_, hsplit⟩
    rw [encode, header_fields hop]
  case h_7 hop =>
    cases hd
    refine ⟨.disconnect (headerN h) (headerCmd h) _, _, hign, rfl, ?_, hsplit⟩
    rw [encode, header_fields hop]
  case h_8 =>
    cases hd
    have hop : isReservedOp (headerOp h) = true := by
      apply Machine.isReservedOp_of_ne <;> assumption
    refine ⟨.reservedOp (headerOp h) (headerRest h), [], hop, rfl, ?_, rfl⟩
    rw [encode, headerOp_append_headerRest]

/-- The same of the bytes on the wire. -/
theorem decodeFrame_spells {bytes left : List Byte} {i : Instr}
    (hd : decodeFrame bytes = .ok (i, left)) : ∃ j used, j.wf = true ∧ i = j.canon ∧
      encode j = .wire used ∧ bytes = used ++ left := by
  obtain ⟨cmd, p, chk, hp, hi, hbytes⟩ := decodeFrame_ok hd
  exact ⟨.frame cmd p chk, wireFrame cmd p chk, decide_eq_true hp, hi, rfl, hbytes⟩

/-! ### The obligations on the encoding -/

/-- Settles O1: the round trip, row by row. -/
theorem decodeEncodeRoundTrip : Obligations.DecodeEncodeRoundTrip := decode_encode

/-- Settles O2: what decodes is the most specific spelling of a row with the word that was read, and
has that row's word. -/
theorem encodeInvertsDecode : Obligations.EncodeInvertsDecode := by
  constructor
  · intro h pay i left hd
    obtain ⟨j, used, hj, rfl, hword, hsplit⟩ := decodeDescriptor_spells hd
    exact ⟨canon_wf hj, canon_canon hj, used, (encode_canon j).trans hword, hsplit⟩
  · intro bytes i left hd
    obtain ⟨j, used, hj, rfl, hword, hsplit⟩ := decodeFrame_spells hd
    exact ⟨canon_wf hj, canon_canon hj, used, (encode_canon j).trans hword, hsplit⟩

/-- Settles O4: the decoder on six words. -/
theorem specWordsDecode : Obligations.SpecWordsDecode :=
  ⟨by decide, by decide, by decide, by decide, by decide, by decide⟩

end Sys2Proof
end

section
/-! SUPPORT. What executing an instruction has in common with executing the most specific spelling of
its word, and what a step can answer. -/

namespace Sys2Proof.Machine

/-! ### The effect on the block and its environment -/

/-- A state without what the host remembers of its typed calls. -/
def State.uncalled (s : State) : State := { s with call := none, ret := none }

theorem settle_uncalled (s : State) : s.settle.uncalled = s.uncalled := by
  rcases settle_cases s with ⟨-, h⟩ | ⟨-, h⟩ | ⟨-, p, -, h⟩ <;> rw [h]
  rfl

theorem run_uncalled (k : Nat) (s : State) : s.uncalled.run k = (s.run k).uncalled := by
  obtain ⟨hi, hb, -, -⟩ := run_outside k s
  calc s.uncalled.run k
      = (s.run k).facing s.inputs s.burst none none := run_facing s s.inputs s.burst none none k
    _ = (s.run k).uncalled := by rw [← hi, ← hb]; rfl

/-- An operation does the same whatever the host remembers of its typed calls. -/
theorem pursue_uncalled (s : State) :
    s.pursue.uncalled = s.uncalled.run (s.uncalled.burst.getD opTicks) := by
  rw [State.pursue, settle_uncalled, run_uncalled]
  rfl

theorem startXfer_accept_uncalled (s : State) (l : Latch) (c : Option Pending) :
    (s.accept l c).startXfer.uncalled = (s.accept l none).startXfer.uncalled := by
  simp only [State.startXfer, apply_ite State.uncalled]
  rfl

/-- An `XFER` does the same whichever typed call it serves, if any (R114, R222). -/
theorem issueXfer_uncalled (s : State) (n : Nat) (cmd : Byte) (p : List Byte)
    (c : Option Pending) :
    (s.issueXfer n cmd p c).uncalled = (s.issueXfer n cmd p none).uncalled := by
  simp only [State.issueXfer, State.submit, apply_ite State.uncalled, pursue_uncalled,
    startXfer_accept_uncalled s _ c]

/-- The most specific spelling of a frame has the device take that frame (R90, R107). -/
theorem exec_ofFrame (cmd : Byte) (p : List Byte) (chk : Byte) (s : State) :
    exec (.ofFrame cmd p chk) s = .next (s.deviceTakes (wireFrame cmd p chk)) := by
  unfold Instr.ofFrame
  split
  · split
    · obtain ⟨rfl, rfl⟩ := ‹_ ∧ _›
      change Host.Outcome.next (s.deviceTakes (frameOf 0x01 [])) = _
      rw [frameOf_readQuat]
      rfl
    · split
      · obtain ⟨rfl, rfl⟩ := ‹_ ∧ _›
        change Host.Outcome.next (s.deviceTakes (frameOf 0x02 [])) = _
        rw [frameOf_readRPY]
        rfl
      · rfl
  · simp [exec, execFrameB, packB, bytesLE_le32]
  · simp [exec, execFrameC, packC, bytesLE_le32]
  · rfl

/-- Every instruction answers a next state. -/
theorem exec_next (i : Instr) (s : State) : ∃ t, exec i s = .next t := by
  cases hi : i.isDescriptor with
  | true =>
    obtain ⟨t, ht, -⟩ := exec_presented i s hi
    exact ⟨t, ht⟩
  | false =>
    obtain ⟨frame, ht⟩ := exec_wire i s hi
    exact ⟨_, ht⟩

/-- Both spellings of a word answer next states that differ in the host's record of its calls at most. -/
theorem exec_canon_uncalled (i : Instr) (s : State) :
    ∃ t u, exec i s = .next t ∧ exec i.canon s = .next u ∧ t.uncalled = u.uncalled := by
  have xfer (n : Nat) (cmd : Byte) (p : List Byte) :
      ∃ t u, exec (.xfer n cmd p) s = .next t ∧ exec (.ofXfer n cmd p) s = .next u ∧
        t.uncalled = u.uncalled := by
    obtain ⟨c, hc⟩ := exec_ofXfer n cmd p s
    exact ⟨_, _, rfl, hc, (issueXfer_uncalled s n cmd p c).symm⟩
  have frame (cmd : Byte) (p : List Byte) (chk : Byte) :
      ∃ t u, exec (.frame cmd p chk) s = .next t ∧ exec (.ofFrame cmd p chk) s = .next u ∧
        t.uncalled = u.uncalled := ⟨_, _, rfl, exec_ofFrame cmd p chk s, rfl⟩
  cases i with
  | xfer n cmd p => exact xfer n cmd p
  | xferA n cmd => exact xfer n cmd []
  | frame cmd p chk => exact frame cmd p chk
  | frameA cmd chk => exact frame cmd [] chk
  | getFrameId chk => exact frame Config.probeCmd [] chk
  | encode | encodeNp | send | recv | connect | disconnect | xferB | xferC | frameB | frameC
  | readQuatFrame | readRpyFrame | readQuat | readRPY | reservedOp =>
    obtain ⟨t, ht⟩ := exec_next _ s
    exact ⟨t, t, ht, ht, rfl⟩

/-- Settles O3: what the two spellings agree on does not hold the host's record of its calls. -/
theorem canonicalSpellingSameEffect : Obligations.CanonicalSpellingSameEffect := by
  intro i s
  obtain ⟨t, u, ht, hu, h⟩ := exec_canon_uncalled i s
  have agree {α : Type} (f : State → α) (hf : ∀ v, f v = f v.uncalled) : f t = f u := by
    rw [hf, hf u, h]
  exact ⟨t, u, ht, hu, agree _ fun _ => rfl, agree _ fun _ => rfl, agree _ fun _ => rfl,
    agree _ fun _ => rfl, agree _ fun _ => rfl⟩

/-! ### What a step can answer -/

/-- Decoding a packed descriptor fails only where payload bytes are missing (R102). -/
theorem decodeDescriptor_error {h : Header} {pay : List Byte} {e : DecodeError}
    (hd : decodeDescriptor h pay = .error e) :
    e = .truncatedPayload ∧ pay.length < (headerPlen h).toNat := by
  unfold decodeDescriptor at hd
  dsimp only at hd
  split at hd
  case h_1 | h_3 | h_5 =>
    split at hd <;> cases hd
    exact ⟨rfl, of_decide_eq_true ‹_›⟩
  all_goals cases hd

/-- The one refusal of a step is of a packed descriptor that does not decode (log entry 26). -/
theorem fetch_refuse {s : State} {r : Refusal} (h : fetch s = .refuse r) :
    ∃ hdr pay rest e, s.inputs = .packed hdr pay :: rest ∧ decodeDescriptor hdr pay = .error e ∧
      r = .undecodable e := by
  unfold fetch at h
  dsimp only at h
  split at h
  case h_2 hdr pay rest hi =>
    split at h
    · split at h
      · cases h
      · cases h
        exact ⟨hdr, pay, rest, _, hi, ‹_›, rfl⟩
    · cases h
  case h_3 | h_4 | h_10 => split at h <;> cases h
  all_goals cases h

/-- Settles O58: an instruction that is fetched answers a next state, and what is refused is a packed
descriptor that does not decode. -/
theorem stepAnswersNext : Obligations.StepAnswersNext := by
  intro s
  cases hf : fetch s with
  | run i t =>
    obtain ⟨u, hu⟩ := exec_next i t
    exact .inl ⟨u, by rw [step, hf]; exact hu⟩
  | next t => exact .inl ⟨t, by rw [step, hf]⟩
  | refuse r =>
    obtain ⟨hdr, pay, rest, e, hi, hd, rfl⟩ := fetch_refuse hf
    obtain ⟨rfl, hshort⟩ := decodeDescriptor_error hd
    exact .inr ⟨hdr, pay, rest, hi, hshort, hd, by rw [step, hf]⟩

/-- Settles O6: what is at the front of the wire is a frame, and the step runs what it decodes to. -/
theorem stepRunsWireFrame : Obligations.StepRunsWireFrame := by
  intro s left rest i hi hd
  obtain ⟨cmd, p, chk, hp, rfl, -⟩ := decodeFrame_ok hd
  exact ⟨ofFrame_wf cmd chk hp, step_wire hi hd⟩

/-- Settles O30: a header with a reserved code decodes to the instruction that changes nothing. -/
theorem reservedOpIsRefused : Obligations.ReservedOpIsRefused := by
  refine ⟨fun op rest s => rfl, fun s h pay rest hr hi hop => ?_⟩
  rw [← headerOp_toNat] at hop
  exact step_packed hr hi (decodeDescriptor_reserved pay (decide_eq_true hop))

/-- The test that an `XFER` fails by its payload or by its arity (R111, R164). -/
theorem xfer_illFormed {n : Nat} {p : List Byte} (h : 255 < p.length ∨ 9 < n) :
    (payloadFits p && decide (n ≤ Config.nMax)) = false := by
  rcases h with hp | hn
  · rw [payloadFits_of_overlong hp, Bool.false_and]
  · rw [arity_illegal hn, Bool.and_false]

/-- Settles O27: what is not well formed is submitted as such, whatever its operation would start
with. -/
theorem illFormedDescriptorIsFatal : Obligations.IllFormedDescriptorIsFatal := by
  intro s hr
  have fatal {w : Bool} (hw : w = false) (u : State) :
      Host.Outcome.next (s.submit w u) = (.next s.enterFatal : Host.Outcome State Fault Refusal) := by
    rw [hw, submit_illFormed hr]
  refine ⟨fun n cmd p hp => ?_, fun n cmd p h => fatal (xfer_illFormed h) _,
    fun n cmd g hn => ?_, rfl⟩
  · exact ⟨fatal (payloadFits_of_overlong hp) _, fatal (payloadFits_of_overlong hp) _⟩
  · exact ⟨fatal (arity_illegal hn) _, fatal (xfer_illFormed (.inr hn)) _⟩

end Sys2Proof.Machine
end

section
/-! The checksum of a frame as a number, and the obligation on frames. -/

namespace Sys2Proof

/-- Adding bytes to the accumulator adds their values modulo 256 (R120, R121). -/
theorem foldl_csAdd_toNat (s : List Byte) (csum : Byte) :
    (s.foldl csAdd csum).toNat = (csum.toNat + (s.map BitVec.toNat).sum) % 256 := by
  induction s generalizing csum with
  | nil => exact (Nat.mod_eq_of_lt csum.isLt).symm
  | cons b s ih =>
    rw [List.foldl_cons, ih, csAdd, BitVec.toNat_add, List.map_cons, List.sum_cons, Nat.mod_add_mod,
      Nat.add_assoc]

theorem sum8_toNat (s : List Byte) : (sum8 s).toNat = (s.map BitVec.toNat).sum % 256 := by
  rw [sum8, foldl_csAdd_toNat]
  exact congrArg (· % 256) (Nat.zero_add _)

/-- Settles O11: a frame is its body and the sum of it. -/
theorem frameLengthStartChecksum : Obligations.FrameLengthStartChecksum := by
  intro cmd p hp
  refine ⟨?_, rfl, ?_⟩
  · rw [Machine.frameOf_length, ← lengthByte_toNat hp]
    rfl
  · rw [frameOf, List.getLast?_concat, List.dropLast_concat, frameSum, Option.map_some, sum8_toNat]

end Sys2Proof
end

section
/-! SUPPORT. The fault-free course of an exchange without a reply. -/

namespace Sys2Proof.Machine

/-- Everything written is on the wire, and nothing is awaited: a `SEND`, or an exchange of arity 0
(R169). -/
theorem tickTxDrain_completes {s : State} (ho : s.tr.isOpen = true) (hf : s.answer.fault = false)
    (h : s.d.op = opSend ∨ (s.d.op ≠ opConnect ∧ s.d.n = 0)) :
    s.tickTxDrain = (s.withTransport { s.tr with
      rxq := s.tr.rxq ++ s.answer.arrive, txq := [], wire := s.tr.wire ++ s.tr.txq }).succeed := by
  by_cases hop : s.d.op = opSend
  · simp [State.tickTxDrain, txDrain_done ho hf, hop]
  · obtain ⟨hconnect, hn⟩ := h.resolve_left hop
    have hn' : s.d.n = 0#4 := hn
    simp [State.tickTxDrain, txDrain_done ho hf, hop, hn', State.exchangeSucceeds, hconnect]

/-- The state of an exchange whose frame is written and is to be drained (R168). -/
def State.draining (s : State) : State :=
  { s with
    txIdx := BitVec.ofNat 9 s.fb.length, seq := .txDrain,
    oracle := s.oracle.after (s.beforeWrite + 1),
    tr := { s.tr with
      rxq := (if s.cfg.preclear then [] else s.tr.rxq) ++ (s.oracle.ahead s.beforeWrite).arrive,
      txq := s.tr.txq ++ s.fb } }

/-- Pre-clear and write (R167, R168). -/
theorem run_to_draining {s : State} (hq : s.seq = .preclear) (hg : s.SendGoes) :
    s.run 2 = s.draining := by
  obtain ⟨ho, hp, hw, -⟩ := hg
  have hcleared := (tick_preclear hq).trans (tickPreclear_goes ho hp)
  have hanswer : s.tick.answer = s.oracle.ahead s.beforeWrite := by
    rw [hcleared]
    exact oracle_after_ahead s.oracle s.beforeWrite 0
  have hopen : s.tick.tr.isOpen = true := by rw [hcleared]; exact ho
  have hwritten := (tick_tx (s := s.tick) (by rw [hcleared])).trans
    (tickTx_done hopen (by rw [hanswer]; exact hw))
  rw [run_succ (by rw [hq]; rfl), run_succ (by rw [hcleared]; rfl), State.run, hwritten, hanswer,
    hcleared]
  simp only [State.goto, State.handed, State.withTransport, State.drawn, oracle_after_after,
    State.draining]

/-- The drain that ends an exchange without a reply (R169). -/
theorem tick_draining {s : State} (hg : s.SendGoes)
    (h : s.d.op = opSend ∨ (s.d.op ≠ opConnect ∧ s.d.n = 0)) :
    s.draining.tick = ({ s with
      txIdx := BitVec.ofNat 9 s.fb.length, oracle := s.oracle.after s.sendAnswers,
      tr := s.trAfterSend s.fb } : State).succeed := by
  obtain ⟨ho, -, -, hd⟩ := hg
  have hanswer : s.draining.answer = s.oracle.ahead (s.beforeWrite + 1) :=
    oracle_after_ahead s.oracle (s.beforeWrite + 1) 0
  rw [tick_txDrain rfl, tickTxDrain_completes (s := s.draining) ho (by rw [hanswer]; exact hd) h,
    hanswer]
  simp only [State.withTransport, State.drawn, State.draining, oracle_after_after, State.sendAnswers,
    State.trAfterSend, State.atHand, ho, State.succeed]

theorem opXfer_ne_opConnect : opXfer ≠ opConnect := by decide

/-- An `XFER` of arity 0 ends when its frame is on the wire (R162, R170). -/
theorem run_xferFramed_noReply {s : State} (cmd : Byte) (p : List Byte) (hg : s.SendGoes) :
    (s.xferFramed 0 cmd p).run 3 =
      { s.sentDone (xferLatch 0 cmd p) with f := zeroFile, rxb := [], rxCnt := 0 } := by
  calc (s.xferFramed 0 cmd p).run 3
      = (s.xferFramed 0 cmd p).draining.run 1 := by
        rw [run_add 2 1, run_to_draining (s := s.xferFramed 0 cmd p) rfl hg]
    _ = { s.sentDone (xferLatch 0 cmd p) with
          f := zeroFile, rxb := [], rxCnt := 0,
          txIdx := BitVec.ofNat 9 (frameOf cmd p).length } := by
        rw [run_succ rfl, State.run,
          tick_draining (s := s.xferFramed 0 cmd p) hg (.inr ⟨opXfer_ne_opConnect, rfl⟩)]
        rfl
    _ = _ := by rw [frameOf_length]; rfl

/-- An `XFER` from rest that expects no reply and whose frame goes out (R162). -/
theorem exec_xfer_noReply {s : State} (cmd : Byte) {p : List Byte} (hp : p.length ≤ 255)
    (hs : s.AtRest) (hsess : s.sess = true) (hg : s.SendGoes) :
    exec (.xfer 0 cmd p) s = .next
      { s.sentDone (xferLatch 0 cmd p) with f := zeroFile, rxb := [], rxCnt := 0 } := by
  obtain ⟨hready, hb⟩ := hs
  have hrun : (s.xferEncoding 0 cmd p).run opTicks =
      { s.sentDone (xferLatch 0 cmd p) with f := zeroFile, rxb := [], rxCnt := 0 } := by
    rw [show opTicks = (3 + 124) + 1 from rfl, run_succ rfl, tick_xferEncoding s 0 cmd hp, run_add,
      run_xferFramed_noReply cmd p hg, run_resting rfl]
  rw [exec_xfer_accepted cmd hp (Nat.zero_le 9) hready hsess]
  change Host.Outcome.next ((s.xferEncoding 0 cmd p).run (s.burst.getD opTicks)).settle = _
  rw [hb, Option.getD_none, hrun]
  rfl

/-- Settles O23: the pseudo-forms execute as the `XFER`s they stand for. -/
theorem xferPseudoFormsComplete : Obligations.XferPseudoFormsComplete := by
  refine ⟨fun n cmd s hn hn9 hs hsess hg hr => ?_, fun cmd s hs hsess hg => ?_,
    fun cmd pos val s hs hsess hg hr => ?_, fun cmd a b c s hs hsess hg => ?_⟩
  · exact exec_xfer_reply cmd (Nat.zero_le 255) hn hn9 hs hsess hg hr
  · exact exec_xfer_noReply cmd (Nat.zero_le 255) hs hsess hg
  · exact exec_xfer_reply (n := 1) cmd (packB_fits pos val) (by decide) (by decide) hs hsess hg hr
  · exact exec_xfer_noReply cmd (packC_fits a b c) hs hsess hg

end Sys2Proof.Machine
end

section
/-! SUPPORT. The codec instructions as whole next states, and the checksum under permutation. -/

namespace Sys2Proof

/-- Settles O12: the checksum is a sum, and a sum does not depend on the order of its terms. -/
theorem checksumIsOrderFreeSum : Obligations.ChecksumIsOrderFreeSum := by
  refine ⟨sum8_toNat, fun s t hperm => BitVec.eq_of_toNat_eq ?_⟩
  have hsum : (s.map BitVec.toNat).sum = (t.map BitVec.toNat).sum := (hperm.map _).sum_eq
  rw [sum8_toNat, sum8_toNat, hsum]

/-- The checksum of a frame without payload: its length byte adds nothing (R126). -/
theorem frameSum_nil (cmd : Byte) : frameSum cmd [] = 0xBB + cmd := by
  change 0#8 + 0xBB + cmd + 0#8 = 0xBB + cmd
  rw [BitVec.add_zero, BitVec.zero_add]

theorem frameOf_nil (cmd : Byte) : frameOf cmd [] = [0xBB, cmd, 0x00, 0xBB + cmd] := by
  rw [frameOf, frameSum_nil]
  rfl

end Sys2Proof

namespace Sys2Proof.Machine

/-- Settles O8: the frame that is marshalled is written out. -/
theorem encodeWritesFrame : Obligations.EncodeWritesFrame := by
  intro n cmd p s hp hs
  rw [exec_encode_atRest hs n cmd hp]
  rfl

/-- `ENCODE_NP` from rest latches, marshals the empty payload and succeeds (R126, R165). -/
theorem exec_encodeNp_atRest {s : State} (hs : s.AtRest) (n : BitVec 4) (cmd : Byte)
    (g : Ignored) :
    exec (.encodeNp n cmd g) s =
      .next ((s.accept (latchIgnored opEncodeNp n cmd g) none).marshal cmd []).succeed := by
  obtain ⟨hready, hburst⟩ := hs
  have hpursue : ((s.accept (latchIgnored opEncodeNp n cmd g) none).goto .encode).pursue =
      ((s.accept (latchIgnored opEncodeNp n cmd g) none).marshal cmd []).succeed :=
    pursue_of_tick_resting hburst rfl rfl rfl
  exact congrArg Host.Outcome.next ((submit_wellFormed hready _).trans hpursue)

/-- Settles O9: what `ENCODE_NP` marshals is the frame without payload. -/
theorem encodeNpWritesFrame : Obligations.EncodeNpWritesFrame := by
  intro n cmd g s hs
  rw [exec_encodeNp_atRest hs, State.marshal, frameOf_nil, frameSum_nil]
  rfl

end Sys2Proof.Machine
end

section
/-! The obligations on the deserializer: serializing and deserializing undo each other. -/

namespace Sys2Proof

/-- Deserializing takes a serialized pattern off the front (R141). -/
theorem unpack_bytesLE_append (w : F32) (s : List Byte) :
    unpack (bytesLE w ++ s) = w :: unpack s := by
  simp [bytesLE, unpack, le32_bytesLE]

theorem encodeFloats_cons (w : F32) (v : List F32) :
    encodeFloats (w :: v) = bytesLE w ++ encodeFloats v := rfl

/-- Settles O13, by induction on the sequence: the deserializer takes off one pattern at a time. -/
theorem unpackEncodeFloats : Obligations.UnpackEncodeFloats := by
  intro v
  induction v with
  | nil => rfl
  | cons w v ih => rw [encodeFloats_cons, unpack_bytesLE_append, ih]

/-- Settles O14, along the recursion of `unpack`: a whole reply is a value's four bytes and a shorter
whole reply, or empty. -/
theorem encodeFloatsUnpack : Obligations.EncodeFloatsUnpack := by
  intro s
  induction s using unpack.induct with
  | case1 b0 b1 b2 b3 rest ih =>
    intro hlen
    simp only [List.length_cons] at hlen
    obtain ⟨hbytes, hcount⟩ := ih (by omega)
    constructor
    · rw [unpack, encodeFloats_cons, bytesLE_le32, hbytes]
      rfl
    · simp only [unpack, List.length_cons, hcount]
      omega
  | case2 s hshort =>
    intro hlen
    match s, hlen with
    | [], _ => exact ⟨rfl, rfl⟩
    | b0 :: b1 :: b2 :: b3 :: rest, _ => exact absurd rfl (hshort b0 b1 b2 b3 rest)

end Sys2Proof
end

section
/-! SUPPORT. The value of a binary32 pattern (R147) and the rounding to nearest (R227, R228). -/

namespace Sys2Proof.Machine

/-! ### The value of a pattern -/

theorem f32Exp_eq (w : F32) : f32Exp w = w.toNat / 2 ^ 23 % 256 := field_toNat w 23 8

theorem f32Frac_eq (w : F32) : f32Frac w = w.toNat % 2 ^ 23 := by
  rw [f32Frac, field_toNat, Nat.pow_zero, Nat.div_one]

/-- A pattern with a value is subnormal or zero, or it is normal (R147). -/
theorem f32Value_some {w : F32} {x : FiniteF32} (h : f32Value w = some x) :
    (f32Exp w = 0 ∧ x = { neg := w.msb, mant := f32Frac w, up := 0, down := 149 }) ∨
    (f32Exp w ≠ 0 ∧ x = { neg := w.msb, mant := 2 ^ 23 + f32Frac w, up := f32Exp w - 150,
                          down := 150 - f32Exp w }) := by
  unfold f32Value at h
  split at h
  · cases h
  · split at h
    case isTrue hzero => exact .inl ⟨hzero, (Option.some.inj h).symm⟩
    case isFalse hpos => exact .inr ⟨hpos, (Option.some.inj h).symm⟩

theorem f32Value_eq_none_iff (w : F32) : f32Value w = none ↔ f32Exp w = 255 := by
  unfold f32Value
  split
  case isTrue hexp => simp [hexp]
  case isFalse hexp => split <;> simp [hexp]

/-- Two powers, each cut off at zero, together make the power of the difference (R147). -/
theorem two_pow_sub_mul (e c : Nat) : 2 ^ (e - c) * 2 ^ c = 2 ^ e * 2 ^ (c - e) := by
  rw [← pow_add, ← pow_add]
  congr 1
  omega

/-- The value of a finite pattern, by its exponent field (R147). -/
theorem f32Value_scaled {w : F32} {x : FiniteF32} (h : f32Value w = some x) :
    x.neg = w.msb ∧
    (f32Exp w = 0 → x.mant * 2 ^ x.up * 2 ^ 149 = f32Frac w * 2 ^ x.down) ∧
    (f32Exp w ≠ 0 → x.mant * 2 ^ x.up * 2 ^ 150 =
      (2 ^ 23 + f32Frac w) * 2 ^ f32Exp w * 2 ^ x.down) := by
  rcases f32Value_some h with ⟨hzero, rfl⟩ | ⟨hpos, rfl⟩
  · exact ⟨rfl, fun _ => by rw [pow_zero, mul_one], (absurd hzero ·)⟩
  · refine ⟨rfl, (absurd · hpos), fun _ => ?_⟩
    simp only [mul_assoc, two_pow_sub_mul]

theorem roundPlaces_some {w : F32} {x : FiniteF32} (h : f32Value w = some x) (places : Nat) :
    roundPlaces places w = .decimal (x.nearest (10 ^ places)) places := by
  rw [roundPlaces, h]

theorem roundPlaces_none {w : F32} (h : f32Value w = none) (places : Nat) :
    roundPlaces places w = .pattern w := by
  rw [roundPlaces, h]

/-! ### Rounding to nearest -/

/-- The rounded number is at most half a unit away, and even where it is just half a unit away (R227). -/
theorem roundHalfEven_spec {num den : Nat} (hden : 0 < den) :
    2 * (roundHalfEven num den * den) ≤ 2 * num + den ∧
    2 * num ≤ 2 * (roundHalfEven num den * den) + den ∧
    (2 * (roundHalfEven num den * den) = 2 * num + den ∨
      2 * num = 2 * (roundHalfEven num den * den) + den → roundHalfEven num den % 2 = 0) := by
  have hnum : num / den * den + num % den = num := Nat.div_add_mod' num den
  have hrem : num % den < den := Nat.mod_lt num hden
  have hnext : (num / den + 1) * den = num / den * den + den := Nat.succ_mul _ _
  unfold roundHalfEven
  simp only
  split_ifs with hbelow habove heven
  · omega
  · rw [hnext]; omega
  · omega
  · rw [hnext]; omega

/-- No integer is nearer than the rounded number. -/
theorem roundHalfEven_nearest {num den : Nat} (hden : 0 < den) (c : Int) :
    |(roundHalfEven num den : Int) * den - num| ≤ |c * den - num| := by
  obtain ⟨habove, hbelow, -⟩ := roundHalfEven_spec (num := num) hden
  zify at habove hbelow hden
  generalize (roundHalfEven num den : Int) = m at *
  have hhalf : 2 * |m * den - num| ≤ den := by
    rcases abs_cases (m * den - num : Int) with ⟨habs, -⟩ | ⟨habs, -⟩ <;> linarith
  rcases eq_or_ne c m with rfl | hne
  · exact le_rfl
  · have hunit : (den : Int) ≤ |c * den - m * den| := by
      rw [← sub_mul, abs_mul, abs_of_pos hden]
      exact le_mul_of_one_le_left hden.le (Int.one_le_abs (sub_ne_zero.mpr hne))
    have htriangle := abs_sub_le (c * den) num (m * den : Int)
    rw [abs_sub_comm (num : Int)] at htriangle
    linarith

/-- Rounding reads the ratio, not the fraction's own terms. -/
theorem roundHalfEven_mul_right (num den : Nat) {c : Nat} (hc : 0 < c) :
    roundHalfEven (num * c) (den * c) = roundHalfEven num den := by
  unfold roundHalfEven
  simp only [Nat.mul_div_mul_right _ _ hc, Nat.mul_mod_mul_right, ← mul_assoc,
    Nat.mul_lt_mul_right hc]

end Sys2Proof.Machine
end

section
/-! SUPPORT. Delivery in binary64 (R7, R227): the leading exponent of a ratio, the pattern made from it,
and that no finite pattern is nearer to the ratio. -/

namespace Sys2Proof.Machine

/-! ### The exponent of the leading bit of a ratio -/

/-- The exponent of the leading bit of `num / den`, plus 1100, as `binary64Ratio` finds it. -/
def leadingExponent (num den : Nat) : Nat :=
  let guess := num.log2 + 1100 - den.log2
  if num * 2 ^ 1100 < den * 2 ^ guess then guess - 1 else guess

theorem binary64Ratio_eq {num : Nat} (hnum : num ≠ 0) (neg : Bool) (den : Nat) :
    binary64Ratio neg num den = BitVec.ofNat 64 ((if neg then 2 ^ 63 else 0) +
      (leadingExponent num den + 1023 - 1100 - 1) * 2 ^ 52 +
      roundHalfEven (num * 2 ^ 1152) (den * 2 ^ leadingExponent num den)) := by
  rw [binary64Ratio, if_neg hnum]
  rfl

/-- The leading exponent of a ratio whose terms have at most 150 and 20 bits. -/
theorem leadingExponent_range {num den : Nat} (hnum : num ≠ 0) (hnumBits : num < 2 ^ 150)
    (hden : den ≠ 0) (hdenBits : den < 2 ^ 20) :
    1080 ≤ leadingExponent num den ∧ leadingExponent num den < 1250 := by
  have ha : num.log2 < 150 := (Nat.log2_lt hnum).mpr hnumBits
  have hb : den.log2 < 20 := (Nat.log2_lt hden).mpr hdenBits
  unfold leadingExponent
  simp only
  split_ifs <;> omega

/-- The ratio lies between the power of its leading exponent and the next one. -/
theorem leadingExponent_bounds {num den : Nat} (hnum : num ≠ 0) (hden : den ≠ 0)
    (hdenBits : den < 2 ^ 20) :
    den * 2 ^ leadingExponent num den ≤ num * 2 ^ 1100 ∧
    num * 2 ^ 1100 < den * 2 ^ (leadingExponent num den + 1) := by
  have hb : den.log2 < 20 := (Nat.log2_lt hden).mpr hdenBits
  have hguess : den.log2 + (num.log2 + 1100 - den.log2) = num.log2 + 1100 := by omega
  have hnumLow : 2 ^ num.log2 ≤ num := Nat.log2_self_le hnum
  have hnumHigh : num < 2 ^ (num.log2 + 1) := Nat.lt_log2_self
  have hdenLow : 2 ^ den.log2 ≤ den := Nat.log2_self_le hden
  have hdenHigh : den < 2 ^ (den.log2 + 1) := Nat.lt_log2_self
  unfold leadingExponent
  simp only
  generalize num.log2 + 1100 - den.log2 = guess at *
  split_ifs with hlow
  · have hpos : guess - 1 + 1 = guess := by omega
    refine ⟨?_, by rwa [hpos]⟩
    calc den * 2 ^ (guess - 1)
        ≤ 2 ^ (den.log2 + 1) * 2 ^ (guess - 1) := Nat.mul_le_mul_right _ hdenHigh.le
      _ = 2 ^ num.log2 * 2 ^ 1100 := by rw [← pow_add, ← pow_add]; congr 1; omega
      _ ≤ num * 2 ^ 1100 := Nat.mul_le_mul_right _ hnumLow
  · refine ⟨not_lt.mp hlow, ?_⟩
    calc num * 2 ^ 1100
        < 2 ^ (num.log2 + 1) * 2 ^ 1100 := Nat.mul_lt_mul_of_pos_right hnumHigh (by positivity)
      _ = 2 ^ den.log2 * 2 ^ (guess + 1) := by rw [← pow_add, ← pow_add]; congr 1; omega
      _ ≤ den * 2 ^ (guess + 1) := Nat.mul_le_mul_right _ hdenLow

/-! ### Finite patterns as significand and unit -/

theorem signed_natAbs (neg : Bool) (m : Nat) : (signed neg m).natAbs = m := by
  cases neg <;> simp [signed]

theorem signed_mul (neg : Bool) (m c : Nat) : signed neg (m * c) = signed neg m * c := by
  cases neg <;> simp [signed]

theorem signed_decide_natAbs (q : Int) : signed (decide (q < 0)) q.natAbs = q := by
  unfold signed
  split_ifs with hneg <;> simp only [decide_eq_true_eq] at hneg <;> omega

/-- A finite binary64 value is a significand below `2^53` times a power of two. -/
theorem binary64Scaled_natAbs {b : BitVec 64} {v : Int} (h : binary64Scaled b = some v) :
    ∃ m k : Nat, m < 2 ^ 53 ∧ v.natAbs = m * 2 ^ k := by
  have hfrac : b.toNat % 2 ^ 52 < 2 ^ 52 := Nat.mod_lt _ (by positivity)
  unfold binary64Scaled at h
  simp only at h
  split_ifs at h with hinf hzero
  · cases h
    exact ⟨b.toNat % 2 ^ 52, 0, by omega, by rw [signed_natAbs, pow_zero, mul_one]⟩
  · cases h
    exact ⟨2 ^ 52 + b.toNat % 2 ^ 52, b.toNat / 2 ^ 52 % 2 ^ 11 - 1, by omega, signed_natAbs _ _⟩

/-- A pattern with sign bit, exponent field and fraction `frac` of a normal number. -/
theorem binary64Scaled_normal (neg : Bool) {f frac : Nat} (hf : f < 2046) (hfrac : frac < 2 ^ 52) :
    binary64Scaled (BitVec.ofNat 64 ((if neg then 2 ^ 63 else 0) + (f + 1) * 2 ^ 52 + frac)) =
      some (signed neg ((2 ^ 52 + frac) * 2 ^ f)) := by
  have hmsb : (BitVec.ofNat 64 ((if neg then 2 ^ 63 else 0) + (f + 1) * 2 ^ 52 + frac)).msb = neg := by
    rw [BitVec.msb_eq_decide, BitVec.toNat_ofNat]
    cases neg <;> simp <;> omega
  have hword : (BitVec.ofNat 64 ((if neg then 2 ^ 63 else 0) + (f + 1) * 2 ^ 52 + frac)).toNat =
      (if neg then 2 ^ 63 else 0) + (f + 1) * 2 ^ 52 + frac := by
    rw [BitVec.toNat_ofNat]
    split <;> omega
  have hexp : ((if neg then 2 ^ 63 else 0) + (f + 1) * 2 ^ 52 + frac) / 2 ^ 52 % 2 ^ 11 = f + 1 := by
    split <;> omega
  have hlow : ((if neg then 2 ^ 63 else 0) + (f + 1) * 2 ^ 52 + frac) % 2 ^ 52 = frac := by
    split <;> omega
  unfold binary64Scaled
  simp only [hmsb, hword, hexp, hlow]
  rw [if_neg (by omega), if_neg (by omega), Nat.add_sub_cancel]

/-- Adding a significand with its leading bit to the exponent field: a carry out of the rounding gives the
next power of two, as `binary64Ratio` intends. -/
theorem binary64Scaled_carry (neg : Bool) {f m : Nat} (hf : f < 2045) (hlow : 2 ^ 52 ≤ m)
    (hhigh : m ≤ 2 ^ 53) :
    binary64Scaled (BitVec.ofNat 64 ((if neg then 2 ^ 63 else 0) + f * 2 ^ 52 + m)) =
      some (signed neg (m * 2 ^ f)) := by
  rcases hhigh.lt_or_eq with hlt | rfl
  · have hsplit : (if neg then 2 ^ 63 else 0) + f * 2 ^ 52 + m =
        (if neg then 2 ^ 63 else 0) + (f + 1) * 2 ^ 52 + (m - 2 ^ 52) := by omega
    rw [hsplit, binary64Scaled_normal neg (by omega) (by omega), Nat.add_sub_cancel' hlow]
  · have hsplit : (if neg then 2 ^ 63 else 0) + f * 2 ^ 52 + 2 ^ 53 =
        (if neg then 2 ^ 63 else 0) + (f + 1 + 1) * 2 ^ 52 + 0 := by omega
    rw [hsplit, binary64Scaled_normal neg (by omega) (by positivity), pow_succ 2 f, pow_succ 2 52,
      Nat.add_zero, mul_assoc, mul_comm (2 ^ f) 2]

/-! ### No finite pattern is nearer -/

section Nearest
/-! The ratio is `num / den`, and `2^f` the unit in the last place of its binade: the significand is at
least `2^52` and below `2^53`. -/
variable {num den f : Nat}

/-- The rounded significand has its leading bit at 52, but for a carry out of the rounding. -/
theorem roundHalfEven_binade (hden : 0 < den) (hlow : 2 ^ 52 * (den * 2 ^ f) ≤ num)
    (hhigh : num < 2 ^ 53 * (den * 2 ^ f)) :
    2 ^ 52 ≤ roundHalfEven num (den * 2 ^ f) ∧ roundHalfEven num (den * 2 ^ f) ≤ 2 ^ 53 := by
  have hunit : 0 < den * 2 ^ f := by positivity
  obtain ⟨habove, hbelow, -⟩ := roundHalfEven_spec (num := num) hunit
  generalize den * 2 ^ f = unit at *
  generalize roundHalfEven num unit = m at *
  have hlow' : 2 ^ 52 * unit < (m + 1) * unit := by rw [Nat.add_one_mul]; omega
  have hhigh' : m * unit < (2 ^ 53 + 1) * unit := by rw [Nat.add_one_mul]; omega
  exact ⟨Nat.le_of_lt_succ (Nat.lt_of_mul_lt_mul_right hlow'),
    Nat.le_of_lt_succ (Nat.lt_of_mul_lt_mul_right hhigh')⟩

/-- A number with a significand of 53 bits is a multiple of the unit `2^f`, or it lies below the binade. -/
theorem dvd_or_below_binade {m k : Nat} (hm : m < 2 ^ 53) :
    2 ^ f ∣ m * 2 ^ k ∨ m * 2 ^ k < 2 ^ 52 * 2 ^ f := by
  rcases Nat.lt_or_ge k f with hlt | hge
  · right
    calc m * 2 ^ k < 2 ^ 53 * 2 ^ k := Nat.mul_lt_mul_of_pos_right hm (by positivity)
      _ = 2 ^ 52 * 2 ^ (k + 1) := by rw [pow_succ 2 52, pow_succ 2 k, mul_assoc, mul_comm 2 (2 ^ k)]
      _ ≤ 2 ^ 52 * 2 ^ f := Nat.mul_le_mul_left _ (Nat.pow_le_pow_right (by norm_num) hlt)
  · exact .inl (Dvd.dvd.mul_left (pow_dvd_pow 2 hge) m)

/-- The rounded significand times the unit is as near to the ratio as any number with a significand of 53
bits: a multiple of the unit is no nearer, and what lies below the binade is further off than its least
element. -/
theorem roundHalfEven_nearest_float (hden : 0 < den) (hlow : 2 ^ 52 * (den * 2 ^ f) ≤ num)
    {z : Int} {m k : Nat} (hm : m < 2 ^ 53) (hz : z.natAbs = m * 2 ^ k) :
    |((roundHalfEven num (den * 2 ^ f) * 2 ^ f : Nat) : Int) * den - num| ≤ |z * den - num| := by
  have hunit : 0 < den * 2 ^ f := by positivity
  have hgrid (c : Int) : |((roundHalfEven num (den * 2 ^ f) * 2 ^ f : Nat) : Int) * den - num| ≤
      |c * 2 ^ f * den - num| := by
    have hnearest := roundHalfEven_nearest (num := num) hunit c
    push_cast at hnearest ⊢
    rwa [mul_assoc, mul_comm (2 ^ f : Int), mul_assoc c, mul_comm (2 ^ f : Int) (den : Int)]
  rcases dvd_or_below_binade (f := f) (k := k) hm with hdvd | hbelow
  · rw [← hz, ← Int.natCast_dvd] at hdvd
    obtain ⟨c, rfl⟩ := hdvd
    have hc := hgrid c
    rwa [mul_comm c] at hc
  · have hzBelow : z ≤ 2 ^ 52 * 2 ^ f := by
      rw [← hz] at hbelow
      zify at hbelow
      exact (le_abs_self z).trans hbelow.le
    have hzDen : z * den ≤ 2 ^ 52 * 2 ^ f * den := mul_le_mul_of_nonneg_right hzBelow (by positivity)
    have hlow' : (2 ^ 52 * 2 ^ f * den : Int) ≤ num := by
      zify at hlow
      linarith
    calc _ ≤ |(2 ^ 52 : Int) * 2 ^ f * den - num| := hgrid _
      _ ≤ |z * den - num| := by
        rw [abs_of_nonpos (by linarith), abs_of_nonpos (by linarith)]
        linarith

end Nearest

/-- The distance from a signed ratio is that of the mirrored number from its magnitude. -/
theorem abs_sub_signed (neg : Bool) (z d : Int) (m : Nat) :
    |z * d - signed neg m| = |(if neg then -z else z) * d - m| := by
  cases neg
  · rfl
  · rw [← abs_neg]
    congr 1
    simp only [signed, if_true]
    ring

end Sys2Proof.Machine
end

section
/-! The obligation on values, rounding and delivery. -/

namespace Sys2Proof.Machine

/-- The pattern of a ratio, with the unit `2^f` of its binade in the scale of `binary64Scaled`. -/
theorem binary64Ratio_unit {num den : Nat} (hnum : num ≠ 0) (hnumBits : num < 2 ^ 150)
    (hden : den ≠ 0) (hdenBits : den < 2 ^ 20) (neg : Bool) : ∃ f < 2045,
    2 ^ 52 * (den * 2 ^ f) ≤ num * 2 ^ 1074 ∧ num * 2 ^ 1074 < 2 ^ 53 * (den * 2 ^ f) ∧
    binary64Ratio neg num den = BitVec.ofNat 64 ((if neg then 2 ^ 63 else 0) + f * 2 ^ 52 +
      roundHalfEven (num * 2 ^ 1074) (den * 2 ^ f)) := by
  obtain ⟨hexpLow, hexpHigh⟩ := leadingExponent_range hnum hnumBits hden hdenBits
  obtain ⟨hlow, hhigh⟩ := leadingExponent_bounds hnum hden hdenBits
  have hratio := binary64Ratio_eq hnum neg den
  obtain ⟨f, hf⟩ := Nat.exists_eq_add_of_le' (show 78 ≤ leadingExponent num den by omega)
  rw [hf] at hlow hhigh hratio hexpHigh
  refine ⟨f, by omega, ?_, ?_, ?_⟩
  · refine Nat.le_of_mul_le_mul_right (c := 2 ^ 26) ?_ (by positivity)
    calc 2 ^ 52 * (den * 2 ^ f) * 2 ^ 26 = den * 2 ^ (f + 78) := by ring
      _ ≤ num * 2 ^ 1100 := hlow
      _ = num * 2 ^ 1074 * 2 ^ 26 := by rw [mul_assoc, ← pow_add]
  · refine Nat.lt_of_mul_lt_mul_right (a := 2 ^ 26) ?_
    calc num * 2 ^ 1074 * 2 ^ 26 = num * 2 ^ 1100 := by rw [mul_assoc, ← pow_add]
      _ < den * 2 ^ (f + 78 + 1) := hhigh
      _ = 2 ^ 53 * (den * 2 ^ f) * 2 ^ 26 := by ring
  · have hfield : f + 78 + 1023 - 1100 - 1 = f := by omega
    have hscaled : num * 2 ^ 1152 = num * 2 ^ 1074 * 2 ^ 78 := by rw [mul_assoc, ← pow_add]
    rw [hratio, hfield, hscaled, pow_add 2 f 78, ← mul_assoc den,
      roundHalfEven_mul_right _ _ (by positivity)]

/-- The pattern of a ratio is finite, and no finite pattern is nearer to the ratio. -/
theorem binary64Ratio_nearest {num den : Nat} (hnum : num ≠ 0) (hnumBits : num < 2 ^ 150)
    (hden : den ≠ 0) (hdenBits : den < 2 ^ 20) (neg : Bool) :
    ∃ v, binary64Scaled (binary64Ratio neg num den) = some v ∧
      ∀ bits' v', binary64Scaled bits' = some v' →
        |v * den - signed neg (num * 2 ^ 1074)| ≤ |v' * den - signed neg (num * 2 ^ 1074)| := by
  obtain ⟨f, hf, hlow, hhigh, hbits⟩ := binary64Ratio_unit hnum hnumBits hden hdenBits neg
  have hpos : 0 < den := Nat.pos_of_ne_zero hden
  generalize num * 2 ^ 1074 = scaled at *
  obtain ⟨hmLow, hmHigh⟩ := roundHalfEven_binade hpos hlow hhigh
  refine ⟨_, by rw [hbits, binary64Scaled_carry neg hf hmLow hmHigh], fun bits' v' hv' => ?_⟩
  obtain ⟨m, k, hm, hk⟩ := binary64Scaled_natAbs hv'
  have hmirror : (if neg then -v' else v').natAbs = m * 2 ^ k := by
    cases neg
    · exact hk
    · exact (Int.natAbs_neg v').trans hk
  have hnearest := roundHalfEven_nearest_float hpos hlow hm hmirror
  rw [abs_sub_signed, abs_sub_signed]
  cases neg
  · exact hnearest
  · simpa only [signed, if_true, neg_neg] using hnearest

/-- A rounded number is delivered in binary64 as a nearest pattern (R7, R227). -/
theorem deliver_decimal_nearest (q : Int) {places : Nat} (hplaces : places ≤ 6)
    (hq : q.natAbs < 2 ^ 150) :
    ∃ bits v, deliver .binary64 (.decimal q places) = .binary64 bits ∧
      binary64Scaled bits = some v ∧
      ∀ bits' v', binary64Scaled bits' = some v' →
        |v * 10 ^ places - q * 2 ^ 1074| ≤ |v' * 10 ^ places - q * 2 ^ 1074| := by
  by_cases hzero : q = 0
  · subst hzero
    refine ⟨if Config.zeroNegative then 0x8000000000000000 else 0, 0, by simp [deliver, toBinary64],
      ?_, ?_⟩
    · cases Config.zeroNegative <;> rfl
    · intro bits' v' _
      rw [zero_mul, zero_mul, sub_zero, abs_zero]
      exact abs_nonneg _
  · have hdenBits : 10 ^ places < 2 ^ 20 :=
      (Nat.pow_le_pow_right (by norm_num) hplaces).trans_lt (by norm_num)
    obtain ⟨v, hv, hnearest⟩ := binary64Ratio_nearest (Int.natAbs_ne_zero.mpr hzero) hq
      (pow_ne_zero places (by norm_num)) hdenBits (decide (q < 0))
    have hsigned : signed (decide (q < 0)) (q.natAbs * 2 ^ 1074) = q * 2 ^ 1074 := by
      rw [signed_mul, signed_decide_natAbs, Nat.cast_pow, Nat.cast_ofNat]
    rw [hsigned] at hnearest
    refine ⟨_, v, by rw [deliver, toBinary64, if_neg hzero], hv, ?_⟩
    simpa only [Nat.cast_pow, Nat.cast_ofNat] using hnearest

/-- The exponent field and the fraction of a delivered NaN. -/
theorem nanWord_fields (neg : Bool) (frac : BitVec 52) :
    (BitVec.ofBool neg ++ (0x7FF : BitVec 11) ++ frac).toNat / 2 ^ 52 % 2 ^ 11 = 2047 ∧
    (BitVec.ofBool neg ++ (0x7FF : BitVec 11) ++ frac).toNat % 2 ^ 52 = frac.toNat := by
  have hexp : (0x7FF : BitVec 11).toNat = 2047 := rfl
  have hfrac : frac.toNat < 2 ^ 52 := frac.isLt
  simp only [append_toNat, hexp]
  omega

/-- An infinity is delivered in binary64 as the infinity of its sign, a NaN as a NaN (log entry 21). -/
theorem deliver_pattern (w : F32) :
    ∃ bits, deliver .binary64 (.pattern w) = .binary64 bits ∧
      bits.toNat / 2 ^ 52 % 2 ^ 11 = 2047 ∧
      (f32Frac w = 0 → bits.toNat % 2 ^ 52 = 0 ∧ bits.msb = w.msb) ∧
      (f32Frac w ≠ 0 → bits.toNat % 2 ^ 52 ≠ 0) := by
  by_cases hinf : f32Frac w = 0
  · refine ⟨if w.msb then 0xFFF0000000000000 else 0x7FF0000000000000,
      by rw [deliver, toBinary64, if_pos hinf], ?_, fun _ => ?_, (absurd hinf ·)⟩ <;>
    cases w.msb <;> decide
  · obtain ⟨hexp, hfrac⟩ := nanWord_fields (Config.nanBits w).1
      (if (Config.nanBits w).2 = 0 then 1 else (Config.nanBits w).2)
    refine ⟨_, by rw [deliver, toBinary64, if_neg hinf], hexp, (absurd · hinf), fun _ => ?_⟩
    rw [hfrac]
    split
    case isTrue => decide
    case isFalse hsome => exact fun h => hsome (BitVec.eq_of_toNat_eq h)

/-- Settles O44: the value of a pattern, the rounding to nearest on it, and the delivery in binary64. -/
theorem roundHalfEvenIsNearest : Obligations.RoundHalfEvenIsNearest := by
  refine ⟨fun num den hden => roundHalfEven_spec hden,
    fun w x hx => ⟨roundPlaces_some hx 6, roundPlaces_some hx 3⟩,
    fun w hw => ⟨roundPlaces_none hw 6, roundPlaces_none hw 3⟩,
    fun w => ?_, fun w x hx => ?_,
    fun q places hplaces hq => deliver_decimal_nearest q hplaces hq,
    fun w _ => ?_⟩
  · rw [← f32Exp_eq]
    exact f32Value_eq_none_iff w
  · rw [← f32Exp_eq, ← f32Frac_eq, ← BitVec.msb_eq_decide w]
    exact f32Value_scaled hx
  · rw [← f32Frac_eq]
    exact deliver_pattern w

end Sys2Proof.Machine
end

section
/-! SUPPORT. The invariant along the transitions of an operation. A typed call returns when the
transitions are over (`State.settle`), so that between them the invariant is that of the state
without the host's record of its calls (`State.uncalled`). -/

namespace Sys2Proof.Machine

/-! ### What holds of a block that is not fatal -/

/-- What the invariant asks of a block that is not fatal, whatever its sequencer does. -/
structure State.Sane (s : State) : Prop where
  not_fatal : s.fatal = false
  ok_err : s.ok = true → s.err = .noError
  fail_zero : s.ok = false → s.f = zeroFile
  frame : s.frameOk
  rx_count : s.rxCnt.toNat = s.rxb.length ∧ s.rxb.length ≤ 36
  payload_fits : s.d.pay.length ≤ Config.maxPayload

/-- A sane block with an operation in progress. -/
structure State.Working (s : State) : Prop extends s.Sane where
  busy : s.busy = true
  not_done : s.done = false

/-- What an operation in progress keeps in every state of an exchange (R164, R206, R210). -/
structure State.Exchanging (s : State) : Prop extends s.Working where
  arity_legal : s.d.op ∈ [opRecv, opXfer, opConnect] → s.d.n.toNat ≤ Config.nMax
  session_open : s.d.op ∈ [opSend, opRecv, opXfer] → s.sess = true
  connecting : s.d.op = opConnect → s.sess = false
  attempt_bound : s.d.op = opConnect → 1 ≤ s.attempt.toNat ∧ s.attempt.toNat ≤ s.probeBound

theorem State.Working.busy_ne_false {s : State} (h : s.Working) : ¬ s.busy = false := by
  simp [h.busy]

theorem State.Working.done_ne_true {s : State} (h : s.Working) : ¬ s.done = true := by
  simp [h.not_done]

theorem State.Sane.fatal_ne_true {s : State} (h : s.Sane) : ¬ s.fatal = true := by
  simp [h.not_fatal]

theorem State.Sane.succeed {s : State} (h : s.Sane) : s.succeed.Sane :=
  { h with ok_err := fun _ => rfl, fail_zero := nofun }

theorem State.Sane.clearResults {s : State} (h : s.Sane) : s.clearResults.Sane :=
  { h with fail_zero := fun _ => rfl, rx_count := ⟨rfl, Nat.zero_le 36⟩ }

theorem State.Working.clearResults {s : State} (h : s.Working) : s.clearResults.Working :=
  { h with toSane := h.toSane.clearResults }

/-! ### The invariant from these, by the state that the sequencer takes -/

/-- A completed operation leaves a sane block in `S_IDLE`. -/
theorem State.Sane.inv_idle {s : State} (h : s.Sane) :
    Inv { s.uncalled with seq := .idle, busy := false, done := true } where
  idle_iff := iff_of_true rfl rfl
  fatal_iff := iff_of_false h.fatal_ne_true nofun
  done_idle _ := rfl
  ok_err := h.ok_err
  fatal_err hf := absurd hf h.fatal_ne_true
  fail_zero hok _ := h.fail_zero hok
  frame := h.frame
  frame_sent := nofun
  rx_count := h.rx_count
  payload_fits := h.payload_fits
  arity_legal := nofun
  receive_some := nofun
  decode_full := nofun
  resync_short := nofun
  admitted := ⟨nofun, nofun, nofun, nofun, nofun⟩
  session_open := nofun
  connecting := nofun
  attempt_bound := nofun
  sleep_bound := nofun
  open_first := nofun
  call_running hc := absurd rfl hc

theorem State.Sane.inv_succeed {s : State} (h : s.Sane) : Inv s.succeed.uncalled :=
  h.succeed.inv_idle

theorem State.Sane.inv_failWith {s : State} (h : s.Sane) (k : Err) : Inv (s.failWith k).uncalled :=
  State.Sane.inv_idle (s := s.failWith k) { h with ok_err := nofun, fail_zero := fun _ => rfl }

/-- What the invariant asks where the sequencer takes the state `q` of an operation in progress. -/
structure State.Fits (s : State) (q : Seq) : Prop where
  frame_sent : q.inSend = true → s.fb ≠ []
  arity_legal : q.inExchange = true ∨ q = .probeSleep →
    s.d.op ∈ [opRecv, opXfer, opConnect] → s.d.n.toNat ≤ Config.nMax
  receive_some : q.inReceive = true → s.d.n ≠ 0
  decode_full : q = .decode → s.rxb.length = s.replySize
  resync_short : q = .resync → s.rxb.length < s.replySize
  admitted : q.admits s.d.op
  session_open : q.inExchange = true → s.d.op ∈ [opSend, opRecv, opXfer] → s.sess = true
  connecting : s.d.op = opConnect → q.inExchange = true ∨ q = .opening ∨ q = .probeSleep →
    s.sess = false
  attempt_bound : s.d.op = opConnect → q.inExchange = true →
    1 ≤ s.attempt.toNat ∧ s.attempt.toNat ≤ s.probeBound
  sleep_bound : q = .probeSleep → s.attempt.toNat < s.probeBound
  open_first : q = .opening → s.attempt = 0

theorem State.Working.inv_goto {s : State} {q : Seq} (h : s.Working) (hidle : q ≠ .idle)
    (hfatal : q ≠ .fatal) (hfits : s.Fits q) : Inv (s.goto q).uncalled :=
  { h, hfits with
    idle_iff := iff_of_false h.busy_ne_false hidle
    fatal_iff := iff_of_false h.fatal_ne_true hfatal
    done_idle := fun hd => absurd hd h.done_ne_true
    fatal_err := fun hf => absurd hf h.fatal_ne_true
    fail_zero := fun hok _ => h.fail_zero hok
    call_running := fun hc => absurd rfl hc }

theorem State.Working.inv_opening {s : State} (h : s.Working) (hop : s.d.op = opConnect)
    (hs : s.sess = false) (ha : s.attempt = 0) : Inv (s.goto .opening).uncalled :=
  h.inv_goto nofun nofun
    { frame_sent := nofun, arity_legal := nofun, receive_some := nofun, decode_full := nofun,
      resync_short := nofun, admitted := ⟨nofun, nofun, nofun, fun _ => hop, nofun⟩,
      session_open := nofun, connecting := fun _ _ => hs, attempt_bound := nofun,
      sleep_bound := nofun, open_first := fun _ => ha }

theorem State.Working.inv_closing {s : State} (h : s.Working)
    (hop : s.d.op ∈ [opConnect, opDisconnect]) : Inv (s.goto .closing).uncalled :=
  h.inv_goto nofun nofun
    { frame_sent := nofun, arity_legal := nofun, receive_some := nofun, decode_full := nofun,
      resync_short := nofun, admitted := ⟨nofun, nofun, nofun, nofun, fun _ => hop⟩,
      session_open := nofun, connecting := nofun, attempt_bound := nofun, sleep_bound := nofun,
      open_first := nofun }

theorem State.Exchanging.inv_probeSleep {s : State} (h : s.Exchanging) (hop : s.d.op = opConnect)
    (hb : s.attempt.toNat < s.probeBound) : Inv (s.goto .probeSleep).uncalled :=
  h.toWorking.inv_goto nofun nofun
    { frame_sent := nofun, arity_legal := fun _ => h.arity_legal, receive_some := nofun,
      decode_full := nofun, resync_short := nofun,
      admitted := ⟨nofun, nofun, nofun, fun _ => hop, nofun⟩, session_open := nofun,
      connecting := fun hop _ => h.connecting hop, attempt_bound := nofun,
      sleep_bound := fun _ => hb, open_first := nofun }

theorem ne_of_inExchange {q q' : Seq} (hq : q.inExchange = true) (hq' : q'.inExchange = false) :
    q ≠ q' := by
  rintro rfl
  exact absurd (hq.symm.trans hq') (by decide)

/-- What is left to show where the sequencer takes a state of an exchange. -/
theorem State.Exchanging.inv_goto {s : State} {q : Seq} (h : s.Exchanging)
    (hq : q.inExchange = true) (hadmits : q.admits s.d.op) (hframe : q.inSend = true → s.fb ≠ [])
    (hsome : q.inReceive = true → s.d.n ≠ 0) (hfull : q = .decode → s.rxb.length = s.replySize)
    (hshort : q = .resync → s.rxb.length < s.replySize) : Inv (s.goto q).uncalled :=
  h.toWorking.inv_goto (ne_of_inExchange hq rfl) (ne_of_inExchange hq rfl)
    { frame_sent := hframe, arity_legal := fun _ => h.arity_legal, receive_some := hsome,
      decode_full := hfull, resync_short := hshort, admitted := hadmits,
      session_open := fun _ => h.session_open, connecting := fun hop _ => h.connecting hop,
      attempt_bound := fun hop _ => h.attempt_bound hop,
      sleep_bound := fun he => absurd he (ne_of_inExchange hq rfl),
      open_first := fun he => absurd he (ne_of_inExchange hq rfl) }

theorem State.Exchanging.inv_encode {s : State} (h : s.Exchanging)
    (hop : s.d.op ∈ [opEncode, opEncodeNp, opSend, opXfer, opConnect]) :
    Inv (s.goto .encode).uncalled :=
  h.inv_goto rfl ⟨fun _ => hop, nofun, nofun, nofun, nofun⟩ nofun nofun nofun nofun

theorem State.Exchanging.inv_send {s : State} {q : Seq} (h : s.Exchanging) (hq : q.inSend = true)
    (hop : s.d.op ∈ [opSend, opXfer, opConnect]) (hfb : s.fb ≠ []) : Inv (s.goto q).uncalled := by
  cases q with
  | preclear | tx | txDrain =>
    exact h.inv_goto rfl ⟨nofun, fun _ => hop, nofun, nofun, nofun⟩ (fun _ => hfb) nofun nofun
      nofun
  | idle | encode | rxWait | decode | resync | opening | probeSleep | closing | fatal =>
    contradiction

theorem State.Exchanging.inv_receive {s : State} {q : Seq} (h : s.Exchanging)
    (hq : q.inReceive = true) (hop : s.d.op ∈ [opRecv, opXfer, opConnect]) (hn : s.d.n ≠ 0)
    (hfull : q = .decode → s.rxb.length = s.replySize)
    (hshort : q = .resync → s.rxb.length < s.replySize) : Inv (s.goto q).uncalled := by
  cases q with
  | rxWait | decode | resync =>
    exact h.inv_goto rfl ⟨nofun, nofun, fun _ => hop, nofun, nofun⟩ nofun (fun _ => hn) hfull
      hshort
  | idle | encode | preclear | tx | txDrain | opening | probeSleep | closing | fatal =>
    contradiction

/-! ### What the invariant says of an operation in progress -/

theorem Inv.working {s : State} (h : Inv s.uncalled) (hidle : s.seq ≠ .idle)
    (hfatal : s.seq ≠ .fatal) : s.Working := by
  have hbusy : s.busy = true := by
    by_contra hb
    exact hidle (h.idle_iff.1 (eq_false_of_ne_true hb))
  have hnf : s.fatal = false := by
    by_contra hf
    exact hfatal (h.fatal_iff.1 (eq_true_of_ne_false hf))
  have hnd : s.done = false := by
    by_contra hd
    exact absurd (hbusy.symm.trans (h.done_idle (eq_true_of_ne_false hd))) (by decide)
  exact { h with
    not_fatal := hnf
    fail_zero := fun hok => h.fail_zero hok hnf
    busy := hbusy
    not_done := hnd }

theorem Inv.exchanging {s : State} (h : Inv s.uncalled) (hq : s.seq.inExchange = true) :
    s.Exchanging :=
  { h.working (ne_of_inExchange hq rfl) (ne_of_inExchange hq rfl) with
    arity_legal := h.arity_legal (.inl hq)
    session_open := h.session_open hq
    connecting := fun hop => h.connecting hop (.inl hq)
    attempt_bound := fun hop => h.attempt_bound hop hq }

theorem Inv.op_of_inSend {s : State} (h : Inv s.uncalled) (hq : s.seq.inSend = true) :
    s.d.op ∈ [opSend, opXfer, opConnect] :=
  have ⟨_, hop, _⟩ := h.admitted
  hop hq

theorem Inv.op_of_inReceive {s : State} (h : Inv s.uncalled) (hq : s.seq.inReceive = true) :
    s.d.op ∈ [opRecv, opXfer, opConnect] :=
  have ⟨_, _, hop, _⟩ := h.admitted
  hop hq

/-! ### The ends of an exchange -/

/-- A failed exchange completes; in a `CONNECT` it leads to the sleep or the close (R205, R206). -/
theorem State.Exchanging.inv_exchangeFails {s : State} (h : s.Exchanging) (k : Err) :
    Inv (s.exchangeFails k).uncalled := by
  unfold State.exchangeFails
  split
  case isTrue hop =>
    split
    · exact h.inv_closing (by rw [hop]; decide)
    case isFalse hb => exact h.inv_probeSleep hop (Nat.lt_of_not_le hb)
  case isFalse => exact h.inv_failWith k

/-- A successful exchange completes, in a `CONNECT` with a session (R204). -/
theorem State.Sane.inv_exchangeSucceeds {s : State} (h : s.succeed.Sane) :
    Inv s.exchangeSucceeds.uncalled := by
  unfold State.exchangeSucceeds
  split
  · exact State.Sane.inv_succeed (s := s.openSession.succeed) { h with }
  · exact h.inv_succeed

/-! ### The transitions of an exchange -/

theorem marshal_frameOk (s : State) (cmd : Byte) {p : List Byte} (hp : p.length ≤ 255) :
    (s.marshal cmd p).frameOk :=
  .inr ⟨cmd, p, hp, rfl, marshal_flen_toNat s cmd hp⟩

theorem frameOf_ne_nil (cmd : Byte) (p : List Byte) : frameOf cmd p ≠ [] := List.cons_ne_nil _ _

theorem payloadInUse_fits {s : State} (h : s.d.pay.length ≤ Config.maxPayload) :
    s.payloadInUse.length ≤ 255 := by
  unfold State.payloadInUse
  split
  · exact Nat.zero_le 255
  · exact (List.length_take_le' _ _).trans h

theorem tickEncode_inv {s : State} (h : Inv s.uncalled) (hq : s.seq = .encode) :
    Inv s.tickEncode.uncalled := by
  have hx : s.Exchanging := h.exchanging (by rw [hq]; rfl)
  have hframe := marshal_frameOk s s.d.cmd (payloadInUse_fits hx.payload_fits)
  have hm : (s.marshal s.d.cmd s.payloadInUse).Exchanging := { hx with frame := hframe }
  have ⟨hadm, _⟩ := h.admitted
  have hop : s.d.op ∈ [opEncode, opEncodeNp, opSend, opXfer, opConnect] := hadm hq
  unfold State.tickEncode
  split
  · exact hm.inv_succeed
  case isFalse hne =>
    refine hm.inv_send rfl ?_ (frameOf_ne_nil _ _)
    rw [not_or] at hne
    simpa [hne.1, hne.2] using hop

theorem tickPreclear_inv {s : State} (h : Inv s.uncalled) (hq : s.seq = .preclear) :
    Inv s.tickPreclear.uncalled := by
  have hx : s.Exchanging := h.exchanging (by rw [hq]; rfl)
  have hsend : s.uncalled.seq.inSend = true := congrArg Seq.inSend hq
  have goes (t : Transport) : Inv (((s.withTransport t).handed 0).goto .tx).uncalled :=
    State.Exchanging.inv_send (s := (s.withTransport t).handed 0) { hx with } rfl
      (h.op_of_inSend hsend) (h.frame_sent hsend)
  unfold State.tickPreclear
  split
  · rcases rxDiscard_cases s with ⟨-, hr⟩ | ⟨-, q, hr⟩ <;> rw [hr]
    · exact goes _
    · exact State.Exchanging.inv_exchangeFails (s := s.withTransport _) { hx with } _
  · exact { goes s.tr with }

theorem tickTx_inv {s : State} (h : Inv s.uncalled) (hq : s.seq = .tx) :
    Inv s.tickTx.uncalled := by
  have hx : s.Exchanging := h.exchanging (by rw [hq]; rfl)
  have hsend : s.uncalled.seq.inSend = true := congrArg Seq.inSend hq
  have written (t : Transport) : ((s.withTransport t).handed (s.written s.fb)).Exchanging :=
    { hx with }
  unfold State.tickTx
  rcases memWrite_cases s s.fb with ⟨-, hr⟩ | ⟨-, k, -, hr⟩ <;> rw [hr]
  · exact (written _).inv_send rfl (h.op_of_inSend hsend) (h.frame_sent hsend)
  · exact (written _).inv_exchangeFails _

theorem tickTxDrain_inv {s : State} (h : Inv s.uncalled) (hq : s.seq = .txDrain) :
    Inv s.tickTxDrain.uncalled := by
  have hx (t : Transport) : (s.withTransport t).Exchanging :=
    { h.exchanging (by rw [hq]; rfl) with }
  have hop : s.d.op ∈ [opSend, opXfer, opConnect] := h.op_of_inSend (congrArg Seq.inSend hq)
  unfold State.tickTxDrain
  rcases txDrain_cases s with ⟨-, hr⟩ | ⟨-, k, hr⟩ <;> rw [hr]
  · dsimp only
    split
    · exact (hx _).inv_succeed
    case isFalse hsend =>
      split
      · exact (hx _).toSane.succeed.inv_exchangeSucceeds
      case isFalse hn =>
        refine (hx _).inv_receive rfl ?_ hn nofun nofun
        have hne : s.d.op ≠ opSend := hsend
        simpa [hne] using Or.inr hop
  · exact (hx _).inv_exchangeFails _

theorem replySize_le {s : State} (h : s.Exchanging) (hop : s.d.op ∈ [opRecv, opXfer, opConnect]) :
    s.replySize ≤ 36 := by
  have := h.arity_legal hop
  unfold State.replySize
  unfold Config.nMax at this
  omega

theorem received_rx_count (s : State) {b : List Byte} (hb : b.length ≤ 36) :
    (s.received b).rxCnt.toNat = (s.received b).rxb.length ∧ (s.received b).rxb.length ≤ 36 :=
  ⟨Nat.mod_eq_of_lt (by change b.length < 64; omega), hb⟩

theorem tickRxWait_inv {s : State} (h : Inv s.uncalled) (hq : s.seq = .rxWait) :
    Inv s.tickRxWait.uncalled := by
  have hx : s.Exchanging := h.exchanging (by rw [hq]; rfl)
  have hrecv : s.uncalled.seq.inReceive = true := congrArg Seq.inReceive hq
  have hop : s.d.op ∈ [opRecv, opXfer, opConnect] := h.op_of_inReceive hrecv
  have hn : s.d.n ≠ 0 := h.receive_some hrecv
  unfold State.tickRxWait
  rcases memRead_cases s s.replySize with ⟨q, hr⟩ | ⟨b, q, hb, hr⟩ <;> rw [hr]
  · exact State.Exchanging.inv_exchangeFails (s := s.withTransport _) { hx with } _
  · have hread : ((s.withTransport { s.tr with rxq := q }).received b).Exchanging :=
      { hx with rx_count := received_rx_count _ (hb.trans (replySize_le hx hop)) }
    dsimp only
    split
    case isTrue hlen => exact hread.inv_receive rfl hop hn (fun _ => hlen) nofun
    case isFalse hlen =>
      exact hread.inv_receive rfl hop hn nofun fun _ => Nat.lt_of_le_of_ne hb hlen

theorem tickDecode_inv {s : State} (h : Inv s.uncalled) (hq : s.seq = .decode) :
    Inv s.tickDecode.uncalled :=
  State.Sane.inv_exchangeSucceeds (s := s.decoded)
    { h.exchanging (congrArg Seq.inExchange hq) with ok_err := fun _ => rfl, fail_zero := nofun }

theorem tickResync_inv {s : State} (h : Inv s.uncalled) (hq : s.seq = .resync) :
    Inv s.tickResync.uncalled := by
  have hx (t : Transport) : (s.withTransport t).Exchanging :=
    { h.exchanging (by rw [hq]; rfl) with }
  unfold State.tickResync
  rcases rxDiscard_cases s with ⟨-, hr⟩ | ⟨-, q, hr⟩ <;> rw [hr] <;>
    exact (hx _).inv_exchangeFails _

/-! ### The transitions of `CONNECT` and `DISCONNECT` -/

theorem probeArity_legal (c : Cfg) : c.probeArity.toNat ≤ Config.nMax := by
  unfold Cfg.probeArity
  split
  · assumption
  · have := (Config.illegalProbeArity c.probeN).isLt
    simp [Config.nMax]
    omega

/-- A new attempt is one more, within the bound (R205, R206). -/
theorem State.Working.inv_nextAttempt {s : State} (h : s.Working) (hop : s.d.op = opConnect)
    (hs : s.sess = false) (hn : s.d.n.toNat ≤ Config.nMax) (hb : s.attempt.toNat < s.probeBound) :
    Inv s.nextAttempt.uncalled := by
  have hsucc : (s.attempt + 1).toNat = s.attempt.toNat + 1 := attempt_succ (c := s.control) hb
  refine State.Exchanging.inv_encode (s := s.nextAttempt) { h with
    arity_legal := fun _ => hn
    session_open := fun hm => ?_
    connecting := fun _ => hs
    attempt_bound := fun _ => ?_ } ?_
  · exact absurd (hop ▸ hm) (by decide)
  · change 1 ≤ (s.attempt + 1).toNat ∧ (s.attempt + 1).toNat ≤ s.probeBound
    omega
  · change s.d.op ∈ _
    rw [hop]
    decide

theorem tickOpen_inv {s : State} (h : Inv s.uncalled) (hq : s.seq = .opening) :
    Inv s.tickOpen.uncalled := by
  have hw : s.Working := h.working (by rw [hq]; decide) (by rw [hq]; decide)
  have ⟨_, _, _, hadm, _⟩ := h.admitted
  have hop : s.d.op = opConnect := hadm (.inl hq)
  have hs : s.sess = false := h.connecting hop (.inr (.inl hq))
  have ha : s.attempt = 0 := h.open_first hq
  have hb : s.attempt.toNat < s.probeBound := by
    rw [ha]
    exact probeBound_pos s.control
  unfold State.tickOpen
  rcases openPort_cases s.latchTimeout s.cfg.openCall with ⟨-, hr⟩ | ⟨-, hr⟩ <;> rw [hr]
  · dsimp only
    split
    · exact State.Working.inv_nextAttempt (s := (s.latchTimeout.withTransport _).latchProbe)
        { hw with payload_fits := Nat.zero_le _ } hop hs (probeArity_legal s.cfg) hb
    · exact State.Sane.inv_succeed (s := (s.latchTimeout.withTransport _).openSession) { hw with }
  · exact State.Sane.inv_failWith (s := s.latchTimeout.withTransport _) { hw with } _

theorem tickProbeSleep_inv {s : State} (h : Inv s.uncalled) (hq : s.seq = .probeSleep) :
    Inv s.tickProbeSleep.uncalled := by
  have hw : s.Working := h.working (by rw [hq]; decide) (by rw [hq]; decide)
  have ⟨_, _, _, hadm, _⟩ := h.admitted
  have hop : s.d.op = opConnect := hadm (.inr hq)
  have hmem : s.uncalled.d.op ∈ [opRecv, opXfer, opConnect] := by
    rw [show s.uncalled.d.op = opConnect from hop]
    decide
  exact hw.inv_nextAttempt hop (h.connecting hop (.inr (.inr hq)))
    (h.arity_legal (.inr hq) hmem) (h.sleep_bound hq)

theorem tickClose_inv {s : State} (h : Inv s.uncalled) (hq : s.seq = .closing) :
    Inv s.tickClose.uncalled := by
  have hw : s.closePort.endSession.Working :=
    { h.working (by rw [hq]; decide) (by rw [hq]; decide) with }
  unfold State.tickClose
  split
  case isTrue hop =>
    split
    case isTrue ha => exact hw.inv_opening hop rfl ha
    · exact hw.inv_failWith _
  · exact hw.inv_succeed

/-- Every transition keeps the invariant but for the typed call. -/
theorem tick_inv {s : State} (h : Inv s.uncalled) : Inv s.tick.uncalled := by
  unfold State.tick
  cases hq : s.seq with
  | idle | fatal => exact h
  | encode => exact tickEncode_inv h hq
  | preclear => exact tickPreclear_inv h hq
  | tx => exact tickTx_inv h hq
  | txDrain => exact tickTxDrain_inv h hq
  | rxWait => exact tickRxWait_inv h hq
  | decode => exact tickDecode_inv h hq
  | resync => exact tickResync_inv h hq
  | opening => exact tickOpen_inv h hq
  | probeSleep => exact tickProbeSleep_inv h hq
  | closing => exact tickClose_inv h hq

theorem run_inv (k : Nat) {s : State} (h : Inv s.uncalled) : Inv (s.run k).uncalled := by
  induction k generalizing s with
  | zero => exact h
  | succ k ih =>
    cases hr : s.seq.resting
    · rw [run_succ hr]
      exact ih (tick_inv h)
    · rwa [run_resting hr]

end Sys2Proof.Machine
end

section
/-! The invariant along instructions and steps. -/

namespace Sys2Proof.Machine

/-! ### From the transitions to the operation -/

/-- When the transitions are over, the typed call has returned (R222). -/
theorem settle_inv {s : State} (h : Inv s.uncalled) (hcall : s.call ≠ none → s.d.op = opXfer) :
    Inv s.settle := by
  rcases settle_cases s with ⟨hb, hs⟩ | ⟨hc, hs⟩ | ⟨-, p, -, hs⟩ <;> rw [hs]
  · exact { h with call_running := fun hc => ⟨hb, hcall hc⟩ }
  · exact { h with call_running := fun hne => absurd hc hne }
  · exact { h with call_running := fun hne => absurd rfl hne }

theorem run_op (k : Nat) (s : State) : (s.run k).d.op = s.d.op :=
  (run_reaches k s).keeps (P := (·.op = s.d.op)) (fun _ _ hm => Eq.trans (by cases hm <;> rfl)) rfl

theorem settle_run_inv (k : Nat) {s : State} (h : Inv s.uncalled)
    (hcall : s.call ≠ none → s.d.op = opXfer) : Inv (s.run k).settle := by
  obtain ⟨-, -, hc, -⟩ := run_outside k s
  refine settle_inv (run_inv k h) ?_
  rwa [hc, run_op]

theorem Inv.uncalled {s : State} (h : Inv s) : Inv s.uncalled :=
  { h with call_running := fun hc => absurd rfl hc }

theorem proceed_inv {s : State} (h : Inv s) : Inv s.proceed :=
  settle_run_inv _ h.uncalled fun hc => (h.call_running hc).2

/-! ### Descriptors -/

theorem Inv.sane {s : State} (h : Inv s) (hf : s.fatal = false) : s.Sane :=
  { h with not_fatal := hf, fail_zero := fun hok => h.fail_zero hok hf }

/-- Acceptance sets an operation going in a sane block (R44). -/
theorem Inv.accept {s : State} (h : Inv s) (hr : s.ready = true) {l : Latch}
    (hl : l.pay.length ≤ Config.maxPayload) (c : Option Pending) : (s.accept l c).Working :=
  { h.sane ((ready_iff s).1 hr).2 with payload_fits := hl, busy := rfl, not_done := rfl }

/-- No call is pending in an idle block. -/
theorem Inv.call_idle {s : State} (h : Inv s) (hb : s.busy = false) : s.call = none := by
  by_contra hc
  exact absurd ((h.call_running hc).1.symm.trans hb) (by decide)

/-- Entry to `S_FATAL` from an idle block (R258). -/
theorem enterFatal_inv {s : State} (h : Inv s) (hb : s.busy = false) : Inv s.enterFatal :=
  { h with
    idle_iff := iff_of_false nofun nofun
    fatal_iff := iff_of_true rfl rfl
    done_idle := nofun
    ok_err := nofun
    fatal_err := fun _ => ⟨rfl, rfl⟩
    fail_zero := nofun
    frame_sent := nofun
    arity_legal := nofun
    receive_some := nofun
    decode_full := nofun
    resync_short := nofun
    admitted := ⟨nofun, nofun, nofun, nofun, nofun⟩
    session_open := nofun
    connecting := nofun
    attempt_bound := nofun
    sleep_bound := nofun
    open_first := nofun
    call_running := fun hc => absurd (h.call_idle hb) hc }

/-- A descriptor presented keeps the invariant if its operation starts as the sequencer asks. -/
theorem submit_inv {s x : State} (h : Inv s) (w : Bool)
    (hx : s.ready = true → w = true → Inv x.uncalled)
    (hcall : x.call ≠ none → x.d.op = opXfer) : Inv (s.submit w x) := by
  rcases submit_cases s w x with ⟨-, hs⟩ | ⟨hr, -, hs⟩ | ⟨hr, hw, hs⟩ <;> rw [hs]
  · exact h
  · exact enterFatal_inv h ((ready_iff s).1 hr).1
  · exact settle_run_inv _ (hx hr hw) hcall

/-- An exchange that is none of a probe needs an arity in use to be legal, and a session. -/
theorem State.Working.exchanging {s : State} (h : s.Working) (hop : s.d.op ≠ opConnect)
    (hn : s.d.op ∈ [opRecv, opXfer, opConnect] → s.d.n.toNat ≤ Config.nMax)
    (hs : s.d.op ∈ [opSend, opRecv, opXfer] → s.sess = true) : s.Exchanging :=
  { h with
    arity_legal := hn
    session_open := hs
    connecting := fun he => absurd he hop
    attempt_bound := fun he => absurd he hop }

theorem startSend_inv {s : State} (h : s.Working) (hop : s.d.op = opSend) :
    Inv s.startSend.uncalled := by
  unfold State.startSend
  split
  case isTrue hs =>
    have hx : s.Exchanging := h.exchanging (by rw [hop]; decide)
      (by rw [hop]; exact (absurd · (by decide))) (fun _ => hs)
    exact hx.inv_encode (by rw [hop]; decide)
  · exact h.inv_failWith _

theorem startRecv_inv {s : State} (h : s.Working) (hop : s.d.op = opRecv)
    (hn : s.d.n.toNat ≤ Config.nMax) : Inv s.startRecv.uncalled := by
  unfold State.startRecv
  split
  · exact h.clearResults.inv_failWith _
  case isFalse hs =>
    split
    · exact h.clearResults.inv_succeed
    case isFalse hsome =>
      have hx : s.clearResults.Exchanging := h.clearResults.exchanging
        (by rw [clearResults_d, hop]; decide) (fun _ => hn) (fun _ => by simpa using hs)
      exact hx.inv_receive rfl (by rw [clearResults_d, hop]; decide) hsome nofun nofun

theorem startXfer_inv {s : State} (h : s.Working) (hop : s.d.op = opXfer)
    (hn : s.d.n.toNat ≤ Config.nMax) : Inv s.startXfer.uncalled := by
  unfold State.startXfer
  split
  case isTrue hs =>
    have hx : s.clearResults.Exchanging := h.clearResults.exchanging
      (by rw [clearResults_d, hop]; decide) (fun _ => hn) (fun _ => hs)
    exact hx.inv_encode (by rw [clearResults_d, hop]; decide)
  · exact h.clearResults.inv_failWith _

theorem startEncode_inv {s : State} (h : s.Working)
    (hop : s.d.op = opEncode ∨ s.d.op = opEncodeNp) : Inv (s.goto .encode).uncalled := by
  have hx : s.Exchanging := by
    rcases hop with hop | hop <;> apply h.exchanging <;> rw [hop]
    case inl.hop | inr.hop => decide
    all_goals exact (absurd · (by decide))
  exact hx.inv_encode (by rcases hop with hop | hop <;> rw [hop] <;> decide)

theorem startConnect_inv {s : State} (h : s.Working) (hop : s.d.op = opConnect) :
    Inv s.startConnect.uncalled := by
  have hw : s.clearResults.noAttempt.Working := { h.clearResults with }
  unfold State.startConnect
  split
  · exact hw.inv_closing (by rw [noAttempt_d, clearResults_d, hop]; decide)
  case isFalse hs => exact hw.inv_opening hop (eq_false_of_ne_true hs) rfl

theorem startDisconnect_inv {s : State} (h : s.Working) (hop : s.d.op = opDisconnect) :
    Inv s.startDisconnect.uncalled := by
  unfold State.startDisconnect
  split
  · exact h.inv_closing (by rw [hop]; decide)
  · exact h.inv_succeed

/-! No start of an operation changes the host's call. -/

theorem startSend_call (s : State) : s.startSend.call = s.call := by
  unfold State.startSend; split <;> rfl

theorem startRecv_call (s : State) : s.startRecv.call = s.call := by
  unfold State.startRecv; split <;> [rfl; (split <;> rfl)]

theorem startConnect_call (s : State) : s.startConnect.call = s.call := by
  unfold State.startConnect; split <;> rfl

theorem startDisconnect_call (s : State) : s.startDisconnect.call = s.call := by
  unfold State.startDisconnect; split <;> rfl

theorem startXfer_latch (s : State) : s.startXfer.d = s.d := by
  unfold State.startXfer; split <;> rfl

/-- A descriptor presented by no typed call. -/
theorem submit_uncalled_inv {s x : State} (h : Inv s) (w : Bool) (hnone : x.call = none)
    (hx : s.ready = true → w = true → Inv x.uncalled) : Inv (s.submit w x) :=
  submit_inv h w hx fun hc => absurd hnone hc

theorem payloadFits_iff {p : List Byte} : payloadFits p = true ↔ p.length ≤ Config.maxPayload :=
  decide_eq_true_iff

theorem issueXfer_inv {s : State} (h : Inv s) (n : Nat) (cmd : Byte) (p : List Byte)
    (c : Option Pending) : Inv (s.issueXfer n cmd p c) := by
  refine submit_inv h _ (fun hr hw => ?_) fun _ => congrArg Latch.op (startXfer_latch _)
  obtain ⟨hp, hn⟩ := Bool.and_eq_true_iff.1 hw
  exact startXfer_inv (h.accept hr (payloadFits_iff.1 hp) c) rfl
    ((Nat.mod_le n 16).trans (of_decide_eq_true hn))

/-- A descriptor keeps the invariant, whatever it is and whatever comes of it. -/
theorem exec_descriptor_inv {i : Instr} {s t : State} (hi : i.isDescriptor = true) (h : Inv s)
    (ht : exec i s = .next t) : Inv t := by
  cases i with
  | encode n cmd p =>
    cases ht
    exact submit_uncalled_inv h _ rfl fun hr hw =>
      startEncode_inv (h.accept hr (payloadFits_iff.1 hw) none) (.inl rfl)
  | encodeNp n cmd g =>
    cases ht
    exact submit_uncalled_inv h _ rfl fun hr _ =>
      startEncode_inv (h.accept hr (latchIgnored_fits _ _ _ g) none) (.inr rfl)
  | send n cmd p =>
    cases ht
    exact submit_uncalled_inv h _ (startSend_call _) fun hr hw =>
      startSend_inv (h.accept hr (payloadFits_iff.1 hw) none) rfl
  | recv n cmd g =>
    cases ht
    exact submit_uncalled_inv h _ (startRecv_call _) fun hr hw =>
      startRecv_inv (h.accept hr (latchIgnored_fits _ _ _ g) none) rfl
        ((Nat.mod_le n 16).trans (of_decide_eq_true hw))
  | connect n cmd g =>
    cases ht
    exact submit_uncalled_inv h _ (startConnect_call _) fun hr _ =>
      startConnect_inv (h.accept hr (latchIgnored_fits _ _ _ g) none) rfl
  | disconnect n cmd g =>
    cases ht
    exact submit_uncalled_inv h _ (startDisconnect_call _) fun hr _ =>
      startDisconnect_inv (h.accept hr (latchIgnored_fits _ _ _ g) none) rfl
  | xfer | xferA | xferB | xferC | readQuat | readRPY =>
    cases ht
    exact issueXfer_inv h _ _ _ _
  | reservedOp =>
    cases ht
    exact h
  | frameA | frameB | frameC | frame | readQuatFrame | readRpyFrame | getFrameId =>
    contradiction

/-- Every instruction keeps the invariant. -/
theorem exec_inv {i : Instr} {s t : State} (h : Inv s) (ht : exec i s = .next t) : Inv t := by
  cases hi : i.isDescriptor with
  | true => exact exec_descriptor_inv hi h ht
  | false =>
    obtain ⟨frame, hf⟩ := exec_wire i s hi
    cases hf.symm.trans ht
    exact { h with }

/-! ### The step -/

theorem pulseOver_inv {s : State} (h : Inv s) : Inv s.pulseOver :=
  { h with done_idle := nofun }

theorem writeCfg_inv {s : State} (h : Inv s) (w : CfgWrite) : Inv (s.writeCfg w) := by
  unfold State.writeCfg
  split
  · exact h
  case isFalse hb =>
    have hq : s.seq = .idle := h.idle_iff.1 (eq_false_of_ne_true hb)
    exact { h with
      attempt_bound := fun _ hx => by
        have hx' : s.seq.inExchange = true := hx
        rw [hq] at hx'
        contradiction
      sleep_bound := fun hx => absurd (hq.symm.trans hx) (by decide) }

theorem resetBlock_inv (s : State) : Inv s.resetBlock := { resetSatisfiesInvariant with }

/-- What is fetched is run in a state that satisfies `P`, or leads to one. -/
def Fetched.Satisfies (P : State → Prop) : Fetched → Prop
  | .run _ t => P t
  | .next t => P t
  | .refuse _ => True

theorem fetch_inv {s : State} (hs : Inv s) : (fetch s).Satisfies Inv := by
  have h : Inv s.pulseOver := pulseOver_inv hs
  have hrest (rest : List Input) : Inv (s.pulseOver.inputsLeft rest) := { h with }
  unfold fetch
  dsimp only
  split
  case h_1 => exact proceed_inv h
  case h_2 =>
    split
    · split
      · exact hrest _
      · trivial
    · exact proceed_inv h
  case h_3 => split <;> [exact hrest _; exact proceed_inv h]
  case h_4 => split <;> [exact issueXfer_inv (hrest _) _ _ _ _; exact proceed_inv h]
  case h_5 => exact writeCfg_inv (hrest _) _
  case h_6 => exact resetBlock_inv _
  case h_7 | h_8 | h_9 | h_11 => exact { h with }
  case h_10 => split <;> exact { h with }

/-- Settles O55: what is fetched is run in a state that satisfies the invariant, and every
instruction keeps it. -/
theorem stepKeepsInvariant : Obligations.StepKeepsInvariant := by
  intro s t h ht
  have hfetch := fetch_inv h
  unfold step at ht
  cases hf : fetch s with
  | run i u =>
    rw [hf] at hfetch ht
    exact exec_inv hfetch ht
  | next u =>
    rw [hf] at hfetch ht
    cases ht
    exact hfetch
  | refuse r =>
    rw [hf] at ht
    cases ht

end Sys2Proof.Machine
end

section
/-! SUPPORT. The read that ends an exchange outside of a `CONNECT`, whole, short and faulted (R171
to R175), and what an accepted descriptor comes to; the obligations on `RECV`. -/

namespace Sys2Proof.Machine

/-! ### The read -/

theorem exchangeFails_op {s : State} (hop : s.d.op ≠ opConnect) (k : Err) :
    s.exchangeFails k = s.failWith k := by
  simp [State.exchangeFails, hop]

theorem tick_resync {s : State} (hq : s.seq = .resync) : s.tick = s.tickResync := by
  simp [State.tick, hq]

/-- A whole reply is read and decoded (R172 to R174). -/
theorem run_rxWait_full {u : State} (hq : u.seq = .rxWait) (ho : u.tr.isOpen = true)
    (hop : u.d.op ≠ opConnect)
    (hr : ReadIsFull u.lTimeout u.tr.rxq u.answer.arrive u.replySize) :
    u.run 2 = ({ u with
      f := loadFile u.f (unpack ((u.tr.rxq ++ u.answer.arrive).take u.replySize)),
      rxb := (u.tr.rxq ++ u.answer.arrive).take u.replySize, rxCnt := BitVec.ofNat 6 u.replySize,
      tr := { u.tr with rxq := (u.tr.rxq ++ u.answer.arrive).drop u.replySize },
      oracle := u.oracle.after 1 } : State).succeed := by
  have hread := (tick_rxWait hq).trans (tickRxWait_full ho hr)
  have hop' : u.tick.decoded.d.op ≠ opConnect := by rw [hread]; exact hop
  rw [run_succ (by rw [hq]; rfl), run_succ (by rw [hread]; rfl), State.run,
    tick_decode (by rw [hread]; rfl), State.tickDecode, exchangeSucceeds_op hop', hread]
  simp only [State.received, take_length_of_full hr]
  change State.succeed { u with
    f := loadFile u.f (unpack (((u.tr.rxq ++ u.answer.arrive).take u.replySize).take u.replySize)),
    rxb := _, rxCnt := _, tr := _, oracle := _, seq := .decode } = _
  rw [List.take_take, Nat.min_self]
  rfl

/-- A short read is followed by a discard, whose result is ignored, and times out (R173, R175,
R264). -/
theorem run_rxWait_short {u : State} (hq : u.seq = .rxWait) (ho : u.tr.isOpen = true)
    (hop : u.d.op ≠ opConnect)
    (hr : ReadIsShort u.lTimeout u.tr.rxq u.answer.arrive u.replySize)
    (hf : u.answer.fault = false) :
    u.run 2 = ({ u with
      rxb := shortBytes u.lTimeout u.tr.rxq u.answer.arrive,
      rxCnt := BitVec.ofNat 6 (shortBytes u.lTimeout u.tr.rxq u.answer.arrive).length,
      tr := { u.tr with
              rxq := afterDiscard (u.oracle.ahead 1) (leftUnread u.lTimeout u.answer.arrive) },
      oracle := u.oracle.after 2 } : State).failWith .timeout := by
  have hshort := Nat.ne_of_lt (shortBytes_length _ _ _ _ hr)
  have hread : u.tick = ((u.withTransport
      { u.tr with rxq := leftUnread u.lTimeout u.answer.arrive }).received
        (shortBytes u.lTimeout u.tr.rxq u.answer.arrive)).goto .resync := by
    rw [tick_rxWait hq, State.tickRxWait, memRead_short u _ ho hr, hf]
    exact if_neg hshort
  have hanswer : u.tick.answer = u.oracle.ahead 1 := by
    rw [hread]
    exact drawn_answer u
  have hopen : u.tick.tr.isOpen = true := by rw [hread]; exact ho
  have hdiscard : u.tick.tick = (u.tick.withTransport { u.tick.tr with
      rxq := afterDiscard u.tick.answer u.tick.tr.rxq }).failWith .timeout := by
    rw [tick_resync (by rw [hread]; rfl), State.tickResync, rxDiscard_open _ hopen]
    exact exchangeFails_op (by rw [hread]; exact hop) _
  rw [run_succ (by rw [hq]; rfl), run_succ (by rw [hread]; rfl), State.run, hdiscard, hanswer,
    hread]
  simp only [State.goto, State.received, State.withTransport, State.drawn, oracle_after_after]
  rfl

/-! ### The operation that a descriptor comes to -/

/-- An operation that is over at its start. -/
theorem pursue_resting {u : State} (hq : u.seq.resting = true) (hc : u.call = none) :
    u.pursue = u := by
  rw [State.pursue, run_resting hq]
  simp [State.settle, hc]

/-- An operation that rests after some of its transitions has ended. -/
theorem pursue_of_run {u v : State} {k : Nat} (hb : u.burst = none) (hk : k ≤ opTicks)
    (hrun : u.run k = v) (hq : v.seq.resting = true) (hc : v.call = none) : u.pursue = v := by
  have hall : u.run opTicks = v := by
    rw [← Nat.add_sub_of_le hk, run_add, hrun, run_resting hq]
  rw [State.pursue, hb, Option.getD_none, hall]
  simp [State.settle, hc]

/-- The latch of a `RECV` (R21). -/
def recvLatch (n : Nat) (cmd : Byte) (g : Ignored) : Latch :=
  latchIgnored opRecv (BitVec.ofNat 4 n) cmd g

theorem exec_send_ready {s : State} (n : BitVec 4) (cmd : Byte) {p : List Byte}
    (hp : p.length ≤ 255) (hr : s.ready = true) :
    exec (.send n cmd p) s = .next (s.accept (sendLatch n cmd p) none).startSend.pursue := by
  have hwf : payloadFits p = true := decide_eq_true hp
  change Host.Outcome.next (s.submit _ (s.accept (sendLatch n cmd p) none).startSend) = _
  rw [hwf, submit_wellFormed hr]

theorem exec_recv_ready {s : State} {n : Nat} (cmd : Byte) (g : Ignored) (hn : n ≤ 9)
    (hr : s.ready = true) :
    exec (.recv n cmd g) s = .next (s.accept (recvLatch n cmd g) none).startRecv.pursue := by
  have hwf : decide (n ≤ Config.nMax) = true := decide_eq_true hn
  change Host.Outcome.next (s.submit _ (s.accept (recvLatch n cmd g) none).startRecv) = _
  rw [hwf, submit_wellFormed hr]

theorem exec_xfer_ready {s : State} {n : Nat} (cmd : Byte) {p : List Byte} (hp : p.length ≤ 255)
    (hn : n ≤ 9) (hr : s.ready = true) :
    exec (.xfer n cmd p) s = .next (s.accept (xferLatch n cmd p) none).startXfer.pursue := by
  have hwf : (payloadFits p && decide (n ≤ Config.nMax)) = true := by
    simp [payloadFits, Config.nMax, hp, hn]
  change Host.Outcome.next (s.submit _ (s.accept (xferLatch n cmd p) none).startXfer) = _
  rw [hwf, submit_wellFormed hr]

theorem startSend_noSession {s : State} (hs : s.sess = false) :
    s.startSend = s.failWith .transportUnavailable := by
  simp [State.startSend, hs]

theorem startRecv_noSession {s : State} (hs : s.sess = false) :
    s.startRecv = s.clearResults.failWith .transportUnavailable := by
  simp [State.startRecv, hs]

theorem startXfer_noSession {s : State} (hs : s.sess = false) :
    s.startXfer = s.clearResults.failWith .transportUnavailable := by
  simp [State.startXfer, hs]

/-- Settles O26: without a session the three operations are over at their start. -/
theorem noSessionIsUnavailable : Obligations.NoSessionIsUnavailable := by
  rintro s ⟨hr, -⟩ hs
  have hs' (l : Latch) : (s.accept l none).sess = false := hs
  refine ⟨fun n cmd p hp => ?_, fun n cmd g hn => ?_, fun n cmd p hp hn => ?_⟩
  · rw [exec_send_ready n cmd hp hr, startSend_noSession (hs' _), pursue_resting rfl rfl]
    rfl
  · rw [exec_recv_ready cmd g hn hr, startRecv_noSession (hs' _), pursue_resting rfl rfl]
    rfl
  · rw [exec_xfer_ready cmd hp hn hr, startXfer_noSession (hs' _), pursue_resting rfl rfl]
    rfl

/-! ### `RECV` -/

/-- A `RECV` at its first sequencer state (R161). -/
def State.recvWaiting (s : State) (n : Nat) (cmd : Byte) (g : Ignored) : State :=
  (s.accept (recvLatch n cmd g) none).clearResults.goto .rxWait

theorem recvLatch_arity {n : Nat} (hn : n ≤ 9) (cmd : Byte) (g : Ignored) :
    (recvLatch n cmd g).n.toNat = n :=
  Nat.mod_eq_of_lt (by omega)

theorem startRecv_zero {s : State} (hs : s.sess = true) (hn : s.d.n = 0) :
    s.startRecv = s.clearResults.succeed := by
  have hn' : s.d.n = 0#4 := hn
  simp [State.startRecv, hs, hn']

theorem startRecv_reads {s : State} (hs : s.sess = true) (hn : s.d.n ≠ 0) :
    s.startRecv = s.clearResults.goto .rxWait := by
  have hn' : ¬ s.d.n = 0#4 := hn
  simp [State.startRecv, hs, hn']

/-- Settles O17: a `RECV` of arity 0 is over at its start. -/
theorem recvZeroReadsNothing : Obligations.RecvZeroReadsNothing := by
  rintro cmd g s ⟨hr, -⟩ hs
  rw [exec_recv_ready cmd g (Nat.zero_le 9) hr, startRecv_zero (by exact hs) (by rfl),
    pursue_resting rfl rfl]
  rfl

/-- A `RECV` from rest that expects a reply ends as its read does (R161, R171). -/
theorem exec_recv_of_run {s t : State} {n k : Nat} {cmd : Byte} {g : Ignored} (hn : 1 ≤ n)
    (hn9 : n ≤ 9) (hs : s.AtRest) (hsess : s.sess = true) (hk : k ≤ opTicks)
    (hrun : (s.recvWaiting n cmd g).run k = t) (hq : t.seq.resting = true) (hc : t.call = none) :
    exec (.recv n cmd g) s = .next t := by
  obtain ⟨hr, hb⟩ := hs
  have hsome : (recvLatch n cmd g).n ≠ 0 := by
    intro h
    have hzero : (recvLatch n cmd g).n.toNat = 0 := congrArg BitVec.toNat h
    rw [recvLatch_arity hn9] at hzero
    omega
  have hend : (s.recvWaiting n cmd g).pursue = t := pursue_of_run hb hk hrun hq hc
  rw [exec_recv_ready cmd g hn9 hr, startRecv_reads (by exact hsess) (by exact hsome),
    ← hend]
  rfl

theorem opRecv_ne_opConnect : opRecv ≠ opConnect := by decide

/-- Settles O16: the only primitive is a read, and it is full. -/
theorem recvDecodesReply : Obligations.RecvDecodesReply := by
  intro n cmd g s hn hn9 hs hsess ho hr
  have hsize : (s.recvWaiting n cmd g).replySize = 4 * n :=
    congrArg (4 * ·) (recvLatch_arity hn9 cmd g)
  rw [← hsize] at hr ⊢
  exact exec_recv_of_run hn hn9 hs hsess (by decide)
    (run_rxWait_full (u := s.recvWaiting n cmd g) rfl ho opRecv_ne_opConnect hr) rfl rfl

/-- Settles O18: the read is short, and a discard follows. -/
theorem recvShortIsTimeout : Obligations.RecvShortIsTimeout := by
  intro n cmd g s hn hn9 hs hsess ho hr hf
  have hsize : (s.recvWaiting n cmd g).replySize = 4 * n :=
    congrArg (4 * ·) (recvLatch_arity hn9 cmd g)
  rw [← hsize] at hr
  exact exec_recv_of_run hn hn9 hs hsess (by decide)
    (run_rxWait_short (u := s.recvWaiting n cmd g) rfl ho opRecv_ne_opConnect hr hf) rfl rfl

/-- A faulted read ends the operation (R173, R255). -/
theorem tick_rxWait_fault {u : State} {t : Transport} (hq : u.seq = .rxWait)
    (hop : u.d.op ≠ opConnect) (hr : u.memRead u.replySize = (.fault, u.withTransport t)) :
    u.tick = (u.withTransport t).failWith .transportFault := by
  rw [tick_rxWait hq, State.tickRxWait, hr]
  exact exchangeFails_op (s := u.withTransport t) hop _

/-- Settles O19: the transport is closed, or the read is short and faults. -/
theorem recvFaultIsReported : Obligations.RecvFaultIsReported := by
  intro n cmd g s hn hn9 hs hsess faulted
  let u := s.recvWaiting n cmd g
  have hsize : u.replySize = 4 * n := congrArg (4 * ·) (recvLatch_arity hn9 cmd g)
  have ends (q : List Byte)
      (hr : u.memRead u.replySize = (.fault, u.withTransport { s.tr with rxq := q })) :
      exec (.recv n cmd g) s = .next (faulted q) :=
    exec_recv_of_run hn hn9 hs hsess (k := 1) (by decide)
      (by rw [run_succ rfl, State.run, tick_rxWait_fault (u := u) rfl opRecv_ne_opConnect hr]; rfl)
      rfl rfl
  refine ⟨fun ho => ends _ (memRead_closed u _ ho), fun ho hr hf => ends _ ?_⟩
  rw [← hsize] at hr
  rw [memRead_short u _ ho hr]
  exact congrArg (·, _) (if_pos hf)

end Sys2Proof.Machine
end

section
/-! SUPPORT. The course of an exchange outside of a `CONNECT` from the pre-clear on, up to the
primitive that faults (R166 to R169, R255). -/

namespace Sys2Proof.Machine

/-- An operation stopped by a transport fault, with `k` bytes of its frame handed over, `j` answers
used and the transport left as `t` (R29, R255). -/
def State.stopped (u : State) (k j : Nat) (t : Transport) : State :=
  ({ u with txIdx := BitVec.ofNat 9 k, oracle := u.oracle.after j, tr := t } : State).failWith
    .transportFault

/-- The state of an exchange that is to write its frame (R167, R168). -/
def State.cleared (u : State) : State :=
  { u with
    txIdx := 0, seq := .tx, oracle := u.oracle.after u.beforeWrite,
    tr := { u.tr with rxq := if u.cfg.preclear then [] else u.tr.rxq } }

/-! ### The primitives that fault -/

theorem rxDiscard_fault {s : State} (hf : s.primOk = false) :
    ∃ q, s.rxDiscard = (.fault, s.withTransport { s.tr with rxq := q }) := by
  rcases rxDiscard_cases s with ⟨h, -⟩ | ⟨-, q, h⟩
  · exact absurd (hf.symm.trans h) (by decide)
  · exact ⟨q, by rw [h, arrive_eq]⟩

theorem memWrite_fault {s : State} (hf : s.primOk = false) (v : List Byte) :
    ∃ q, s.memWrite v = (.fault, s.withTransport
      { s.tr with rxq := q, txq := s.tr.txq ++ v.take (s.written v) }) := by
  refine ⟨if s.tr.isOpen then s.tr.rxq ++ s.answer.arrive else s.tr.rxq, ?_⟩
  simp only [State.memWrite, hf, arrive_eq]
  rfl

/-- What a faulting write hands over is a first part, nothing where the transport is closed (R66). -/
theorem written_fault {s : State} (hf : s.primOk = false) (v : List Byte) :
    s.written v ≤ v.length ∧ (s.tr.isOpen = false → s.written v = 0) := by
  cases ho : s.tr.isOpen <;> simp [State.written, hf, ho]

theorem txDrain_fault {s : State} (hf : s.primOk = false) :
    ∃ t : Transport, s.txDrain = (.fault, s.withTransport t) ∧ t.isOpen = s.tr.isOpen ∧
      t.wire ++ t.txq = s.tr.wire ++ s.tr.txq := by
  rcases txDrain_cases s with ⟨h, -⟩ | ⟨-, k, h⟩
  · exact absurd (hf.symm.trans h) (by decide)
  · refine ⟨_, h, arrive_isOpen _ _, ?_⟩
    rw [List.append_assoc, List.take_append_drop]

theorem primOk_fault {s : State} (hf : s.answer.fault = true) : s.primOk = false := by
  simp [State.primOk, hf]

theorem primOk_closed {s : State} (ho : s.tr.isOpen = false) : s.primOk = false := by
  simp [State.primOk, ho]

/-! ### The transitions -/

section Course
variable {u : State}

theorem cleared_answer : u.cleared.answer = u.oracle.ahead u.beforeWrite :=
  oracle_after_ahead u.oracle u.beforeWrite 0

theorem draining_answer : u.draining.answer = u.oracle.ahead (u.beforeWrite + 1) :=
  oracle_after_ahead u.oracle (u.beforeWrite + 1) 0

theorem tick_cleared (hq : u.seq = .preclear) (hp : u.cfg.preclear = true → u.primOk = true) :
    u.tick = u.cleared := by
  rw [tick_preclear hq]
  cases hc : u.cfg.preclear with
  | true =>
    obtain ⟨ho, hf⟩ := (primOk_iff u).1 (hp hc)
    exact tickPreclear_goes ho fun _ => hf
  | false =>
    simp [State.tickPreclear, State.cleared, State.beforeWrite, hc, State.handed, State.goto,
      oracle_after_zero]

theorem tick_draining_of_cleared (ho : u.tr.isOpen = true)
    (hw : (u.oracle.ahead u.beforeWrite).fault = false) : u.cleared.tick = u.draining := by
  rw [tick_tx rfl, tickTx_done (s := u.cleared) ho (by rw [cleared_answer]; exact hw),
    cleared_answer]
  simp only [State.goto, State.handed, State.withTransport, State.drawn, State.cleared,
    oracle_after_after, State.draining]

/-- A pre-clear that faults ends the operation (R167). -/
theorem run_preclear_fault (hq : u.seq = .preclear) (hop : u.d.op ≠ opConnect)
    (hidx : u.txIdx = 0) (hc : u.cfg.preclear = true) (hf : u.primOk = false) :
    ∃ q, u.run 1 = u.stopped 0 1 { u.tr with rxq := q } := by
  obtain ⟨q, hr⟩ := rxDiscard_fault hf
  have hidx' : u.txIdx = BitVec.ofNat 9 0 := hidx
  refine ⟨q, ?_⟩
  rw [run_succ (by rw [hq]; rfl), State.run, tick_preclear hq, State.tickPreclear, if_pos hc, hr]
  refine (exchangeFails_op (s := u.withTransport _) hop _).trans ?_
  rw [State.stopped, ← hidx']
  rfl

/-- A write that faults ends the operation, with some first part of the frame handed over, none
where the transport is closed (R66, R168). -/
theorem run_write_fault (hq : u.seq = .preclear) (hop : u.d.op ≠ opConnect)
    (hp : u.cfg.preclear = true → u.primOk = true) (hf : u.cleared.primOk = false) :
    ∃ q k, k ≤ u.fb.length ∧ (u.tr.isOpen = false → k = 0) ∧
      u.run 2 = u.stopped k (u.beforeWrite + 1)
        { u.tr with rxq := q, txq := u.tr.txq ++ u.fb.take k } := by
  obtain ⟨q, hr⟩ := memWrite_fault hf u.fb
  obtain ⟨hle, hclosed⟩ := written_fault hf u.fb
  have hr' : u.cleared.memWrite u.cleared.fb = _ := hr
  refine ⟨q, u.cleared.written u.fb, hle, hclosed, ?_⟩
  rw [run_succ (by rw [hq]; rfl), tick_cleared hq hp, run_succ rfl, State.run, tick_tx rfl,
    State.tickTx, hr']
  refine (exchangeFails_op (s := (u.cleared.withTransport _).handed _) hop _).trans ?_
  simp only [State.stopped, State.handed, State.withTransport, State.drawn, State.cleared,
    oracle_after_after]
  rfl

/-- A drain that faults ends the operation, the frame being written and in part sent (R67, R169). -/
theorem run_drain_fault (hq : u.seq = .preclear) (hop : u.d.op ≠ opConnect)
    (hp : u.cfg.preclear = true → u.primOk = true) (ho : u.tr.isOpen = true)
    (hw : (u.oracle.ahead u.beforeWrite).fault = false)
    (hf : (u.oracle.ahead (u.beforeWrite + 1)).fault = true) :
    ∃ t : Transport, u.run 3 = u.stopped u.fb.length (u.beforeWrite + 2) t ∧ t.isOpen = true ∧
      t.wire ++ t.txq = u.tr.wire ++ u.tr.txq ++ u.fb := by
  obtain ⟨t, hr, hopen, hsent⟩ :=
    txDrain_fault (s := u.draining) (primOk_fault (by rw [draining_answer]; exact hf))
  refine ⟨t, ?_, hopen.trans ho, hsent.trans (List.append_assoc _ _ _).symm⟩
  rw [run_succ (by rw [hq]; rfl), tick_cleared hq hp, run_succ rfl, tick_draining_of_cleared ho hw,
    run_succ rfl, State.run, tick_txDrain rfl, State.tickTxDrain, hr]
  refine (exchangeFails_op (s := u.draining.withTransport t) hop _).trans ?_
  simp only [State.stopped, State.withTransport, State.drawn, State.draining, oracle_after_after]
  rfl

/-- A read that faults ends the operation, the frame being on the wire (R68, R173). -/
theorem run_read_fault (hq : u.seq = .preclear) (hop : u.d.op = opXfer) (hn : u.d.n ≠ 0)
    (hg : u.SendGoes) (hr : ReadIsShort u.lTimeout u.atHand u.inWindow u.replySize)
    (hf : (u.oracle.ahead u.sendAnswers).fault = true) :
    u.run 4 = u.stopped u.fb.length (u.sendAnswers + 1)
      { u.trAfterSend u.fb with rxq := leftUnread u.lTimeout u.inWindow } := by
  have hsend : u.d.op ≠ opSend := by rw [hop]; decide
  have hconnect : u.d.op ≠ opConnect := by rw [hop]; decide
  have hanswer : u.awaitingReply.answer = u.oracle.ahead u.sendAnswers :=
    oracle_after_ahead u.oracle u.sendAnswers 0
  have hread := memRead_short u.awaitingReply u.replySize rfl (by rw [hanswer]; exact hr)
  rw [hanswer, if_pos hf] at hread
  rw [run_add 3 1, run_preclear hq hg hsend hn, run_succ rfl, State.run,
    tick_rxWait_fault (u := u.awaitingReply) rfl hconnect hread]
  simp only [State.stopped, State.withTransport, State.drawn, State.awaitingReply,
    oracle_after_after]
  rfl

/-- On a closed transport the first primitive faults, the pre-clear or the write (R84). -/
theorem run_closed (hq : u.seq = .preclear) (hop : u.d.op ≠ opConnect) (hidx : u.txIdx = 0)
    (ho : u.tr.isOpen = false) :
    ∃ m q, m ≤ 2 ∧ u.run m = u.stopped 0 1 { u.tr with rxq := q } := by
  cases hc : u.cfg.preclear with
  | true =>
    obtain ⟨q, hrun⟩ := run_preclear_fault hq hop hidx hc (primOk_closed ho)
    exact ⟨1, q, by decide, hrun⟩
  | false =>
    obtain ⟨q, k, -, hk, hrun⟩ := run_write_fault hq hop (by simp [hc])
      (primOk_closed (s := u.cleared) ho)
    have hb : u.beforeWrite = 0 := by simp [State.beforeWrite, hc]
    refine ⟨2, q, by decide, ?_⟩
    rw [hrun, hk ho, hb, List.take_zero, List.append_nil]

end Course

/-- The pre-clear returns `Done`, where it is enabled. -/
theorem primOk_preclear {u : State} (ho : u.tr.isOpen = true)
    (hp : u.cfg.preclear = true → (u.oracle.ahead 0).fault = false) :
    u.cfg.preclear = true → u.primOk = true :=
  fun hc => primOk_of ho (hp hc)

end Sys2Proof.Machine
end

section
/-! The obligations on `SEND` and `XFER`. -/

namespace Sys2Proof.Machine

/-! ### From the framed exchange to the instruction -/

/-- A `SEND` with its frame made (R124, R165). -/
def State.sendFramed (s : State) (n : BitVec 4) (cmd : Byte) (p : List Byte) : State :=
  ((s.sendEncoding n cmd p).marshal cmd p).goto .preclear

theorem payloadInUse_send (s : State) (n : BitVec 4) (cmd : Byte) {p : List Byte}
    (hp : p.length ≤ 255) : (s.sendEncoding n cmd p).payloadInUse = p := by
  change p.take (BitVec.ofNat 8 p.length).toNat = p
  rw [lengthByte_toNat hp, List.take_length]

theorem tick_sendEncoding (s : State) (n : BitVec 4) (cmd : Byte) {p : List Byte}
    (hp : p.length ≤ 255) : (s.sendEncoding n cmd p).tick = s.sendFramed n cmd p := by
  rw [tick_encode rfl, tickEncode_exchange send_marshals, State.framed,
    payloadInUse_send s n cmd hp]
  rfl

/-- A `SEND` from rest ends as its framed exchange does (R160). -/
theorem exec_send_of_run {s t : State} {n : BitVec 4} {cmd : Byte} {p : List Byte} {k : Nat}
    (hp : p.length ≤ 255) (hs : s.AtRest) (hsess : s.sess = true)
    (hrun : (s.sendFramed n cmd p).run k = t) (hk : k < opTicks) (hq : t.seq.resting = true)
    (hc : t.call = none) : exec (.send n cmd p) s = .next t := by
  obtain ⟨hr, hb⟩ := hs
  have hall : (s.sendEncoding n cmd p).run (k + 1) = t := by
    rw [run_succ rfl, tick_sendEncoding s n cmd hp, hrun]
  rw [exec_send_accepted n cmd hp hr hsess, pursue_of_run (by exact hb) hk hall hq hc]

/-- An `XFER` from rest ends as its framed exchange does (R162). -/
theorem exec_xfer_of_run {s t : State} {n : Nat} {cmd : Byte} {p : List Byte} {k : Nat}
    (hp : p.length ≤ 255) (hn : n ≤ 9) (hs : s.AtRest) (hsess : s.sess = true)
    (hrun : (s.xferFramed n cmd p).run k = t) (hk : k < opTicks) (hq : t.seq.resting = true)
    (hc : t.call = none) : exec (.xfer n cmd p) s = .next t := by
  obtain ⟨hr, hb⟩ := hs
  have hall : (s.xferEncoding n cmd p).run (k + 1) = t := by
    rw [run_succ rfl, tick_xferEncoding s n cmd hp, hrun]
  rw [exec_xfer_accepted cmd hp hn hr hsess, pursue_of_run (by exact hb) hk hall hq hc]

/-! ### Fault-free -/

/-- Settles O15: a `SEND` ends when its frame is on the wire. -/
theorem sendTransmitsFrame : Obligations.SendTransmitsFrame := by
  intro n cmd p s hp hs hsess hg
  have hrun : (s.sendFramed n cmd p).run 3 = s.sentDone (sendLatch n cmd p) := by
    rw [run_add 2 1, run_to_draining (s := s.sendFramed n cmd p) rfl hg, run_succ rfl, State.run,
      tick_draining (s := s.sendFramed n cmd p) hg (.inl rfl)]
    change _ = { s.sentDone (sendLatch n cmd p) with txIdx := BitVec.ofNat 9 (4 + p.length) }
    rw [← frameOf_length cmd p]
    rfl
  exact exec_send_of_run hp hs hsess hrun (by decide) rfl rfl

/-- Settles O20: the frame is sent, and the read is full. -/
theorem xferReadsReply : Obligations.XferReadsReply := fun _ cmd _ _ hp hn hn9 hs hsess hg hr =>
  exec_xfer_reply cmd hp hn hn9 hs hsess hg hr

/-- Settles O21: with arity 0 the drain completes the exchange. -/
theorem xferWithoutReply : Obligations.XferWithoutReply := fun cmd _ _ hp hs hsess hg =>
  exec_xfer_noReply cmd hp hs hsess hg

theorem opXfer_ne_opSend : opXfer ≠ opSend := by decide

theorem xferFramed_replySize {n : Nat} (hn : n ≤ 9) (s : State) (cmd : Byte) (p : List Byte) :
    (s.xferFramed n cmd p).replySize = 4 * n :=
  congrArg (4 * ·) (xferLatch_arity hn cmd p)

/-- Settles O22: the frame is sent, the read is short and a discard follows. -/
theorem xferShortIsTimeout : Obligations.XferShortIsTimeout := by
  intro n cmd p s hp hn hn9 hs hsess hg hr hf
  let u := s.xferFramed n cmd p
  have hanswer : u.awaitingReply.answer = s.oracle.ahead s.sendAnswers :=
    oracle_after_ahead s.oracle s.sendAnswers 0
  have hdiscard : u.awaitingReply.oracle.ahead 1 = s.oracle.ahead (s.sendAnswers + 1) :=
    oracle_after_ahead s.oracle s.sendAnswers 1
  have hused : u.awaitingReply.oracle.after 2 = s.oracle.after (s.sendAnswers + 2) :=
    oracle_after_after s.oracle s.sendAnswers 2
  have hshort : ReadIsShort u.awaitingReply.lTimeout u.awaitingReply.tr.rxq
      u.awaitingReply.answer.arrive u.awaitingReply.replySize := by
    rw [hanswer, show u.awaitingReply.replySize = 4 * n from xferFramed_replySize hn9 s cmd p]
    exact hr
  have hrun : u.run 5 = s.xferTimedOut (xferLatch n cmd p) := by
    rw [run_add 3 2, run_preclear (s := u) rfl hg opXfer_ne_opSend (xferLatch_some hn hn9 cmd p),
      run_rxWait_short (u := u.awaitingReply) rfl rfl opXfer_ne_opConnect hshort
        (by rw [hanswer]; exact hf), hanswer, hdiscard, hused]
    change _ = { s.xferTimedOut (xferLatch n cmd p) with txIdx := BitVec.ofNat 9 (4 + p.length) }
    rw [← frameOf_length cmd p]
    rfl
  exact exec_xfer_of_run hp hn9 hs hsess hrun (by decide) rfl rfl

/-! ### Faults -/

/-- What an operation comes to whose framed exchange is `u`, where a primitive of its sending faults
and none before it (R255): `faulted k` is its block with `k` bytes of the frame handed over. -/
structure StopsAtFault (outcome : Host.Outcome State Fault Refusal) (u : State)
    (faulted : Nat → State) : Prop where
  closed : u.tr.isOpen = false →
    ∃ t, outcome = .next t ∧ t.blockOnly = (faulted 0).blockOnly ∧
      t.oracle = u.oracle.after 1 ∧ ∃ q, t.tr = { u.tr with rxq := q }
  at_preclear : u.tr.isOpen = true → u.cfg.preclear = true → (u.oracle.ahead 0).fault = true →
    ∃ t, outcome = .next t ∧ t.blockOnly = (faulted 0).blockOnly ∧
      t.oracle = u.oracle.after 1 ∧ t.tr.isOpen = true ∧
      t.tr.wire ++ t.tr.txq = u.tr.wire ++ u.tr.txq
  at_write : u.tr.isOpen = true → (u.cfg.preclear = true → (u.oracle.ahead 0).fault = false) →
    (u.oracle.ahead u.beforeWrite).fault = true →
    ∃ t k, outcome = .next t ∧ t.blockOnly = (faulted k).blockOnly ∧
      t.oracle = u.oracle.after (u.beforeWrite + 1) ∧ t.tr.isOpen = true ∧ k ≤ u.fb.length ∧
      t.tr.wire ++ t.tr.txq = u.tr.wire ++ u.tr.txq ++ u.fb.take k
  at_drain : u.tr.isOpen = true → (u.cfg.preclear = true → (u.oracle.ahead 0).fault = false) →
    (u.oracle.ahead u.beforeWrite).fault = false →
    (u.oracle.ahead (u.beforeWrite + 1)).fault = true →
    ∃ t, outcome = .next t ∧ t.blockOnly = (faulted u.fb.length).blockOnly ∧
      t.oracle = u.oracle.after (u.beforeWrite + 2) ∧ t.tr.isOpen = true ∧
      t.tr.wire ++ t.tr.txq = u.tr.wire ++ u.tr.txq ++ u.fb

/-- An operation that ends as its framed exchange does stops at the fault. -/
theorem stopsAtFault_of_run {outcome : Host.Outcome State Fault Refusal} {u : State}
    {faulted : Nat → State} (hq : u.seq = .preclear) (hop : u.d.op ≠ opConnect) (hidx : u.txIdx = 0)
    (ends : ∀ {m k j : Nat} {t : Transport}, u.run m = u.stopped k j t → m < opTicks →
      outcome = .next (u.stopped k j t))
    (hblock : ∀ k j t, (u.stopped k j t).blockOnly = (faulted k).blockOnly) :
    StopsAtFault outcome u faulted where
  closed ho := by
    obtain ⟨m, q, hm, hrun⟩ := run_closed hq hop hidx ho
    exact ⟨_, ends hrun (hm.trans_lt (by decide)), hblock _ _ _, rfl, q, rfl⟩
  at_preclear ho hc hf := by
    obtain ⟨q, hrun⟩ := run_preclear_fault hq hop hidx hc (primOk_fault hf)
    exact ⟨_, ends hrun (by decide), hblock _ _ _, rfl, ho, rfl⟩
  at_write ho hp hf := by
    obtain ⟨q, k, hk, -, hrun⟩ := run_write_fault hq hop (primOk_preclear ho hp)
      (primOk_fault (by rw [cleared_answer]; exact hf))
    exact ⟨_, k, ends hrun (by decide), hblock _ _ _, rfl, ho, hk, (List.append_assoc _ _ _).symm⟩
  at_drain ho hp hw hf := by
    obtain ⟨t, hrun, hopen, hsent⟩ := run_drain_fault hq hop (primOk_preclear ho hp) ho hw hf
    exact ⟨_, ends hrun (by decide), hblock _ _ _, rfl, hopen, hsent⟩

theorem opSend_ne_opConnect : opSend ≠ opConnect := by decide

/-- Settles O59: the framed exchange stops at the fault. -/
theorem sendStopsAtTheFault : Obligations.SendStopsAtTheFault := by
  intro n cmd p s hp hs hsess l
  have hstop : StopsAtFault (exec (.send n cmd p) s) (s.sendFramed n cmd p) (s.sendFaulted l) :=
    stopsAtFault_of_run rfl opSend_ne_opConnect rfl
      (fun hrun hm => exec_send_of_run hp hs hsess hrun hm rfl rfl) (fun _ _ _ => rfl)
  exact ⟨hstop.closed, hstop.at_preclear, hstop.at_write, hstop.at_drain⟩

/-- Settles O24: the framed exchange stops at the fault, which may be one of the read. -/
theorem xferStopsAtTheFault : Obligations.XferStopsAtTheFault := by
  intro n cmd p s hp hn9 hs hsess l
  have ends {m k j : Nat} {t : Transport}
      (hrun : (s.xferFramed n cmd p).run m = (s.xferFramed n cmd p).stopped k j t)
      (hm : m < opTicks) :
      exec (.xfer n cmd p) s = .next ((s.xferFramed n cmd p).stopped k j t) :=
    exec_xfer_of_run hp hn9 hs hsess hrun hm rfl rfl
  have hstop : StopsAtFault (exec (.xfer n cmd p) s) (s.xferFramed n cmd p) (s.xferFaulted l) :=
    stopsAtFault_of_run rfl opXfer_ne_opConnect rfl ends (fun _ _ _ => rfl)
  refine ⟨hstop.closed, hstop.at_preclear, hstop.at_write, hstop.at_drain, fun hn hg hr hf => ?_⟩
  rw [← xferFramed_replySize hn9 s cmd p] at hr
  have hrun := run_read_fault (u := s.xferFramed n cmd p) rfl rfl (xferLatch_some hn hn9 cmd p) hg
    hr hf
  exact ⟨_, ends hrun (by decide), rfl, rfl, rfl, (List.append_assoc _ _ _).symm, rfl⟩

end Sys2Proof.Machine
end

section
/-! SUPPORT. How `CONNECT` and `DISCONNECT` start, open and close (R200 to R203, R208, R209), and the
obligations on them without a probe. -/

namespace Sys2Proof.Machine

/-! ### Accepting `CONNECT` and `DISCONNECT` -/

theorem exec_connect_ready {s : State} (n : BitVec 4) (cmd : Byte) (g : Ignored)
    (hr : s.ready = true) :
    exec (.connect n cmd g) s =
      .next (s.accept (latchIgnored opConnect n cmd g) none).startConnect.pursue :=
  congrArg Host.Outcome.next (submit_wellFormed hr _)

theorem exec_disconnect_ready {s : State} (n : BitVec 4) (cmd : Byte) (g : Ignored)
    (hr : s.ready = true) :
    exec (.disconnect n cmd g) s =
      .next (s.accept (latchIgnored opDisconnect n cmd g) none).startDisconnect.pursue :=
  congrArg Host.Outcome.next (submit_wellFormed hr _)

/-- A `CONNECT` that is to call `Open` (R200, R202). -/
def State.connectOpening (s : State) (n : BitVec 4) (cmd : Byte) (g : Ignored) : State :=
  (s.accept (latchIgnored opConnect n cmd g) none).clearResults.noAttempt.goto .opening

/-- A `CONNECT` that is to close the session it found (R201). -/
def State.connectClosing (s : State) (n : BitVec 4) (cmd : Byte) (g : Ignored) : State :=
  (s.accept (latchIgnored opConnect n cmd g) none).clearResults.noAttempt.goto .closing

theorem exec_connect_noSession {s : State} (n : BitVec 4) (cmd : Byte) (g : Ignored)
    (hr : s.ready = true) (hsess : s.sess = false) :
    exec (.connect n cmd g) s = .next (s.connectOpening n cmd g).pursue := by
  have hstart : (s.accept (latchIgnored opConnect n cmd g) none).startConnect =
    s.connectOpening n cmd g := if_neg (by simp [hsess])
  rw [exec_connect_ready n cmd g hr, hstart]

theorem exec_connect_session {s : State} (n : BitVec 4) (cmd : Byte) (g : Ignored)
    (hr : s.ready = true) (hsess : s.sess = true) :
    exec (.connect n cmd g) s = .next (s.connectClosing n cmd g).pursue := by
  have hstart : (s.accept (latchIgnored opConnect n cmd g) none).startConnect =
    s.connectClosing n cmd g := if_pos hsess
  rw [exec_connect_ready n cmd g hr, hstart]

/-- A `CONNECT` without a session ends where its transitions from the `Open` on come to rest. -/
theorem exec_connect_of_run {s t : State} {n : BitVec 4} {cmd : Byte} {g : Ignored} {k : Nat}
    (hs : s.AtRest) (hsess : s.sess = false) (hk : k ≤ opTicks)
    (hrun : (s.connectOpening n cmd g).run k = t) (hq : t.seq.resting = true)
    (hc : t.call = none) : exec (.connect n cmd g) s = .next t := by
  obtain ⟨hr, hb⟩ := hs
  rw [exec_connect_noSession n cmd g hr hsess,
    pursue_of_run (u := s.connectOpening n cmd g) hb hk hrun hq hc]

theorem tick_opening {s : State} (hq : s.seq = .opening) : s.tick = s.tickOpen := by
  simp [State.tick, hq]

theorem tick_closing {s : State} (hq : s.seq = .closing) : s.tick = s.tickClose := by
  simp [State.tick, hq]

/-! ### `Open` -/

theorem openPort_done {s : State} (hf : s.answer.fault = false) (c : OpenCall) :
    s.openPort c = (.done, s.withTransport
      { s.tr with
        openCall := some c, isOpen := true, rxq := s.answer.arrive, txq := s.answer.leftover }) := by
  rcases openPort_cases s c with ⟨-, h⟩ | ⟨h, -⟩
  · exact h
  · exact absurd (hf.symm.trans h) (by decide)

theorem openPort_fault {s : State} (hf : s.answer.fault = true) (c : OpenCall) :
    s.openPort c = (.fault, s.withTransport { s.tr with openCall := some c }) := by
  rcases openPort_cases s c with ⟨h, -⟩ | ⟨-, h⟩
  · exact absurd (hf.symm.trans h) (by decide)
  · exact h

/-- A successful `Open` makes the session, or where the probe is enabled the first attempt (R200,
R203). -/
theorem tickOpen_done {s : State} (hf : s.answer.fault = false) :
    s.tickOpen =
      if s.cfg.probeEn then s.opened.latchProbe.nextAttempt else s.opened.openSession.succeed := by
  have hf' : s.latchTimeout.answer.fault = false := hf
  rw [State.tickOpen, openPort_done hf']
  rfl

/-- A faulting `Open` ends the operation (R202). -/
theorem tickOpen_fault {s : State} (hf : s.answer.fault = true) :
    s.tickOpen = (s.latchTimeout.withTransport
      { s.tr with openCall := some s.cfg.openCall }).failWith .transportFault := by
  have hf' : s.latchTimeout.answer.fault = true := hf
  rw [State.tickOpen, openPort_fault hf']
  rfl

/-- Settles O33: the session is made by the transition that calls `Open`. -/
theorem connectWithoutProbe : Obligations.ConnectWithoutProbe := by
  intro n cmd g s hs hsess hprobe hf
  have hprobe' : ¬ (s.connectOpening n cmd g).cfg.probeEn = true := by
    change ¬ s.cfg.probeEn = true
    simp [hprobe]
  have htick := (tick_opening rfl).trans (tickOpen_done (s := s.connectOpening n cmd g) hf)
  rw [if_neg hprobe'] at htick
  exact exec_connect_of_run (k := 1) hs hsess (by decide) htick rfl rfl

/-- Settles O34: the operation ends with the transition that calls `Open`. -/
theorem connectOpenFaults : Obligations.ConnectOpenFaults := by
  intro n cmd g s hs hsess hf
  have htick := (tick_opening rfl).trans (tickOpen_fault (s := s.connectOpening n cmd g) hf)
  exact exec_connect_of_run (k := 1) hs hsess (by decide) htick rfl rfl

/-! ### `Close` -/

/-- What closing the transport and ending the session leaves (R71, R209). -/
def State.closed (s : State) : State :=
  { s with
    sess := false, oracle := s.oracle.after 1,
    tr := { s.tr with
            isOpen := false, txq := [], rxq := [],
            wire := s.tr.wire ++ s.tr.txq.take (s.oracle.ahead 0).sent } }

/-- The close of an old session within a `CONNECT` (R201). -/
theorem tick_connectClosing (s : State) (n : BitVec 4) (cmd : Byte) (g : Ignored) :
    (s.connectClosing n cmd g).tick = s.closed.connectOpening n cmd g := rfl

/-- Settles O38: after the close the `CONNECT` is one that found no session; both rest within the
transitions that an operation may take, of which the close is one. -/
theorem connectClosesOldSession : Obligations.ConnectClosesOldSession := by
  intro n cmd g s ⟨hr, hb⟩ hsess
  change _ = exec (.connect n cmd g) s.closed
  let u := s.closed.connectOpening n cmd g
  have hrests : (u.run 127).seq.resting = true := by
    have horderly : u.control.Orderly := ⟨nofun, nofun, fun _ => rfl, fun _ => rfl, nofun⟩
    refine run_rests 127 horderly ?_
    have hbound := probeBound_le u.control
    rw [ticksLeft_opening rfl]
    omega
  have hruns : (s.connectClosing n cmd g).run opTicks = u.run opTicks := by
    calc (s.connectClosing n cmd g).run opTicks
        = u.run 127 := by
          rw [show opTicks = 127 + 1 from rfl, run_succ rfl, tick_connectClosing]
      _ = u.run opTicks := by
          rw [show opTicks = 127 + 1 from rfl, run_add, run_resting hrests]
  rw [exec_connect_session n cmd g hr hsess,
    exec_connect_noSession (s := s.closed) n cmd g hr rfl]
  change Host.Outcome.next ((s.connectClosing n cmd g).run (s.burst.getD opTicks)).settle =
    .next (u.run (s.burst.getD opTicks)).settle
  rw [hb, Option.getD_none, hruns]

/-- Settles O39: a session is closed in one transition, and without one nothing is to be done. -/
theorem disconnectEndsSession : Obligations.DisconnectEndsSession := by
  intro n cmd g s ⟨hr, hb⟩
  let u := s.accept (latchIgnored opDisconnect n cmd g) none
  rw [exec_disconnect_ready n cmd g hr]
  change (s.sess = true → Host.Outcome.next u.startDisconnect.pursue = _) ∧
    (s.sess = false → Host.Outcome.next u.startDisconnect.pursue = _)
  refine ⟨fun hsess => ?_, fun hsess => ?_⟩
  · have hstart : u.startDisconnect = u.goto .closing := if_pos hsess
    have hclose : (u.goto .closing).run 1 = u.closed.succeed := rfl
    rw [hstart, pursue_of_run (u := u.goto .closing) hb (by decide) hclose rfl rfl]
    rfl
  · have hstart : u.startDisconnect = u.succeed := if_neg (by simp [u, hsess])
    rw [hstart, pursue_resting rfl rfl]
    rfl

end Sys2Proof.Machine
end

section
/-! SUPPORT. The course of a probe within a `CONNECT` (R200, R205), from its frame made: answered, or
met by silence; and the obligations on the probes. -/

namespace Sys2Proof.Machine

/-! ### A probe with its frame made -/

/-- The probe of attempt `a` of a `CONNECT` with its frame made, `i` bytes of the frame before it having
been handed over (R165, R200). -/
def State.probing (e : State) (a : BitVec 4) (i : BitVec 9) : State :=
  { e with
    d := e.probeLatch, f := zeroFile, rxb := [], rxCnt := 0,
    fb := frameOf e.cfg.probeCmd [], flen := 4, csum := frameSum e.cfg.probeCmd [], txIdx := i,
    attempt := a, seq := .preclear, busy := true, done := false, call := none }

theorem opConnect_ne_opSend : opConnect ≠ opSend := by decide

theorem connect_marshals : opConnect ≠ opEncode ∧ opConnect ≠ opEncodeNp := by decide

/-- A legal `CFG_PROBE_N` is the arity of the probes (R37). -/
theorem probeArity_of_legal {c : Cfg} (h : c.probeN.toNat ≤ 9) : c.probeArity = c.probeN := if_pos h

theorem probeArity_ne_zero {c : Cfg} (hn : 1 ≤ c.probeN.toNat) (hn9 : c.probeN.toNat ≤ 9) :
    c.probeArity ≠ 0 := by
  rw [probeArity_of_legal hn9]
  intro h
  rw [h] at hn
  exact absurd hn (by decide)

theorem tick_probeSleep {s : State} (hq : s.seq = .probeSleep) : s.tick = s.tickProbeSleep := by
  simp [State.tick, hq]

/-- The first attempt, from the `Open` on (R202, R205). -/
theorem run_connectOpening {s : State} (n : BitVec 4) (cmd : Byte) (g : Ignored)
    (hprobe : s.cfg.probeEn = true) (hf : (s.oracle.ahead 0).fault = false) :
    (s.connectOpening n cmd g).run 2 = s.opened.probing 1 0 := by
  have hopen := (tick_opening rfl).trans (tickOpen_done (s := s.connectOpening n cmd g) hf)
  rw [if_pos (by exact hprobe)] at hopen
  rw [run_succ rfl, hopen, run_succ rfl, State.run, tick_encode rfl,
    tickEncode_exchange connect_marshals]
  rfl

/-- A later attempt, from the sleep on (R205, R207). -/
theorem run_probeSleep (e : State) (j : Nat) (i : BitVec 9) :
    ((e.probing (BitVec.ofNat 4 j) i).goto .probeSleep).run 2 =
      e.probing (BitVec.ofNat 4 (j + 1)) i := by
  rw [run_succ rfl, tick_probeSleep rfl, run_succ rfl, State.run, tick_encode rfl,
    tickEncode_exchange connect_marshals, BitVec.ofNat_add]
  rfl

/-! ### An answered probe -/

theorem tick_replyRead_probe {u : State} (hop : u.d.op = opConnect) :
    (u.replyRead u.replySize).tick = ({ u.replyRead u.replySize with
      f := loadFile u.f (unpack ((u.atHand ++ u.inWindow).take u.replySize)),
      sess := true } : State).succeed := by
  have hconnect : (u.replyRead u.replySize).decoded.exchangeSucceeds =
    (u.replyRead u.replySize).decoded.openSession.succeed := if_pos hop
  rw [tick_decode rfl, State.tickDecode, hconnect]
  change State.succeed { u.replyRead u.replySize with
    f := loadFile u.f (unpack (((u.atHand ++ u.inWindow).take u.replySize).take u.replySize)),
    sess := true } = _
  rw [List.take_take, Nat.min_self]

/-- A probe whose reply comes in full makes the session (R173, R204). -/
theorem run_probe_answered {e : State} (a : BitVec 4) (i : BitVec 9)
    (hn : e.cfg.probeArity ≠ 0) (hg : e.SendGoes)
    (hr : ReadIsFull e.lTimeout e.atHand e.inWindow (4 * e.cfg.probeArity.toNat)) :
    (e.probing a i).run 5 = { e.xferDone e.probeLatch with attempt := a, sess := true } := by
  let u := e.probing a i
  calc u.run 5
      = u.awaitingReply.run 2 := by
        rw [run_add 3 2, run_preclear (s := u) rfl hg opConnect_ne_opSend hn]
    _ = (u.replyRead u.replySize).tick := by
        rw [run_succ rfl, tick_awaitingReply (s := u) hr, run_succ rfl, State.run]
    _ = { e.xferDone e.probeLatch with attempt := a, sess := true } := by
        rw [tick_replyRead_probe rfl]
        rfl

/-- The drain of a written frame returns `Done` and everything is on the wire (R67, R169). -/
theorem txDrain_draining {u : State} (hg : u.SendGoes) :
    u.draining.txDrain = (.done, u.awaitingReply.goto .txDrain) := by
  obtain ⟨ho, -, -, hd⟩ := hg
  rw [txDrain_done (s := u.draining) ho (by rw [draining_answer]; exact hd), draining_answer]
  simp only [State.withTransport, State.drawn, State.draining, oracle_after_after,
    State.awaitingReply, State.sendAnswers, State.trAfterSend, State.atHand, ho, State.goto]

theorem tick_draining_probe {u : State} (hg : u.SendGoes) (hop : u.d.op = opConnect)
    (hn : u.d.n = 0) : u.draining.tick = u.awaitingReply.openSession.succeed := by
  have hsend : ¬ u.d.op = opSend := hop ▸ opConnect_ne_opSend
  rw [tick_txDrain rfl, State.tickTxDrain, txDrain_draining hg]
  exact (if_neg hsend).trans ((if_pos hn).trans (if_pos hop))

/-- A probe of arity 0 makes the session when its frame is on the wire (R170, R204). -/
theorem run_probe_noReply {e : State} (a : BitVec 4) (i : BitVec 9)
    (hn : e.cfg.probeArity = 0) (hg : e.SendGoes) :
    (e.probing a i).run 3 = { e.sentDone e.probeLatch with
      f := zeroFile, rxb := [], rxCnt := 0, attempt := a, sess := true } := by
  rw [run_add 2 1, run_to_draining (s := e.probing a i) rfl hg, run_succ rfl, State.run,
    tick_draining_probe (u := e.probing a i) hg rfl hn]
  rfl

/-- Settles O35: the frame of the first attempt is sent, and its reply is read or none is due. -/
theorem connectFirstProbeAnswered : Obligations.ConnectFirstProbeAnswered := by
  intro n cmd g s hs hsess hprobe hf hg l
  have hlatch (h : s.cfg.probeN.toNat ≤ 9) : s.opened.probeLatch = l :=
    congrArg (fun m : BitVec 4 => { l with n := m }) (probeArity_of_legal h)
  refine ⟨fun hn hn9 hr => ?_, fun hn => ?_⟩
  · have harity := probeArity_of_legal hn9
    have hsome : s.cfg.probeArity ≠ 0 := probeArity_ne_zero hn hn9
    rw [← harity] at hr
    have hrun := run_probe_answered (e := s.opened) 1 0 hsome hg hr
    rw [← run_connectOpening n cmd g hprobe hf, ← run_add, hlatch hn9] at hrun
    exact exec_connect_of_run hs hsess (by decide) hrun rfl rfl
  · have hn9 : s.cfg.probeN.toNat ≤ 9 := by simp [hn]
    have hzero : s.cfg.probeArity = 0 := (probeArity_of_legal hn9).trans hn
    have hrun := run_probe_noReply (e := s.opened) 1 0 hzero hg
    rw [← run_connectOpening n cmd g hprobe hf, ← run_add, hlatch hn9] at hrun
    exact exec_connect_of_run hs hsess (by decide) hrun rfl rfl

/-! ### Probes of a silent device -/

/-- The environment answers `k` times without a fault, and the device sends nothing. -/
def State.SilentFor (s : State) (k : Nat) : Prop :=
  ∀ i < k, (s.oracle.ahead i).fault = false ∧ (s.oracle.ahead i).arrive = []

/-- What the environment is after a probe of a device that stayed silent: its frame is on the wire. -/
def State.silentProbe (e : State) : State :=
  { e with
    oracle := e.oracle.after (e.beforeWrite + 4),
    tr := { e.tr with
            rxq := [], txq := [],
            wire := e.tr.wire ++ (e.tr.txq ++ frameOf e.cfg.probeCmd []) } }

/-- A silence goes on after its first answers. -/
theorem State.SilentFor.after {s t : State} {j k : Nat} (h : s.SilentFor (j + k))
    (ht : t.oracle = s.oracle.after j) : t.SilentFor k := by
  intro i hi
  rw [ht, oracle_after_ahead]
  exact h (j + i) (by omega)

theorem State.SilentFor.mono {s : State} {j k : Nat} (h : s.SilentFor k) (hj : j ≤ k) :
    s.SilentFor j :=
  fun i hi => h i (hi.trans_le hj)

/-- In a silence the frame goes out. -/
theorem State.SilentFor.sendGoes {e : State} (h : e.SilentFor (e.beforeWrite + 4))
    (ho : e.tr.isOpen = true) : e.SendGoes := by
  have hfault (i : Nat) (hi : i < e.beforeWrite + 4) : (e.oracle.ahead i).fault = false := (h i hi).1
  exact ⟨ho, fun _ => hfault 0 (by omega), hfault _ (by omega), hfault _ (by omega)⟩

/-- In a silence that found nothing in `rxq` nothing is at hand when the frame is sent. -/
theorem State.SilentFor.atHand {e : State} (h : e.SilentFor (e.beforeWrite + 4))
    (hrxq : e.tr.rxq = []) : e.atHand = [] := by
  have harrive (i : Nat) (hi : i < e.beforeWrite + 4) : (e.oracle.ahead i).arrive = [] := (h i hi).2
  simp [State.atHand, hrxq, harrive]

/-- A read that finds nothing is followed by a discard that finds nothing (R173, R175). -/
theorem run_rxWait_silent {u : State} (hq : u.seq = .rxWait) (ho : u.tr.isOpen = true)
    (hn : 0 < u.replySize) (hrxq : u.tr.rxq = []) (h : u.SilentFor 2) :
    u.run 2 = ({ u with
      rxb := [], rxCnt := 0, seq := .resync, oracle := u.oracle.after 2,
      tr := { u.tr with rxq := [] } } : State).exchangeFails .timeout := by
  obtain ⟨hf, ha⟩ : u.answer.fault = false ∧ u.answer.arrive = [] := h 0 (by decide)
  have hshort : ReadIsShort u.lTimeout u.tr.rxq u.answer.arrive u.replySize := by
    rw [hrxq, ha]
    exact ⟨hn, .inr hn⟩
  have hbytes : shortBytes u.lTimeout u.tr.rxq u.answer.arrive = [] := by
    simp [shortBytes, hrxq, ha]
  have hleft : leftUnread u.lTimeout u.answer.arrive = [] := by simp [leftUnread, ha]
  have hread : u.tick =
      ((u.withTransport { u.tr with rxq := [] }).received []).goto .resync := by
    rw [tick_rxWait hq, State.tickRxWait, memRead_short u _ ho hshort, hf, hbytes, hleft]
    exact if_neg (Nat.ne_of_lt hn)
  have hdiscard : u.tick.rxDiscard = (.done, u.tick.withTransport { u.tick.tr with rxq := [] }) := by
    refine rxDiscard_done (by rw [hread]; exact ho) ?_
    rw [hread]
    exact (congrArg Answer.fault (drawn_answer u)).trans (h 1 (by decide)).1
  rw [run_succ (by rw [hq]; rfl), run_succ (by rw [hread]; rfl), State.run,
    tick_resync (by rw [hread]; rfl), State.tickResync, hdiscard, hread]
  simp only [State.goto, State.received, State.withTransport, State.drawn, oracle_after_after]
  rfl

/-- Within a `CONNECT` the failed attempt leaves its sequencer state for the sleep or the close. -/
theorem exchangeFails_connect {s : State} (hop : s.d.op = opConnect) (k : Err) :
    s.exchangeFails k =
      s.goto (if s.probeBound ≤ s.attempt.toNat then .closing else .probeSleep) := by
  rw [State.exchangeFails, if_pos hop]
  split <;> rfl

/-- A probe of a silent device has failed once its discard has returned (R173, R175, R205). -/
theorem run_probe_silent {e : State} (a : BitVec 4) (i : BitVec 9) (hn : e.cfg.probeArity ≠ 0)
    (ho : e.tr.isOpen = true) (hrxq : e.tr.rxq = []) (h : e.SilentFor (e.beforeWrite + 4)) :
    (e.probing a i).run 5 = (e.silentProbe.probing a 4).goto
      (if e.probeBound ≤ a.toNat then .closing else .probeSleep) := by
  let u := e.probing a i
  have hsize : 0 < u.awaitingReply.replySize :=
    Nat.mul_pos (by decide) (Nat.pos_of_ne_zero fun h0 => hn (BitVec.eq_of_toNat_eq h0))
  have hsilent : u.awaitingReply.SilentFor 2 := h.after (j := e.sendAnswers) rfl
  rw [run_add 3 2, run_preclear (s := u) rfl (h.sendGoes ho) opConnect_ne_opSend hn,
    run_rxWait_silent (u := u.awaitingReply) rfl rfl hsize (h.atHand hrxq) hsilent,
    exchangeFails_connect rfl]
  simp only [State.awaitingReply, oracle_after_after]
  change State.goto ({ e.silentProbe.probing a 4 with
    seq := .resync, tr := { e.silentProbe.tr with isOpen := true } }) _ = _
  rw [← ho]
  rfl

/-- The first silent probe sends what `Open` left in `txq`, and its frame. -/
theorem opened_silentProbe (s : State) : s.opened.silentProbe = s.afterSilentProbes 1 := by
  have horacle : (s.oracle.after 1).after (s.beforeWrite + 4) =
      s.oracle.after (1 + 1 * (s.beforeWrite + 4)) := by
    rw [oracle_after_after, Nat.one_mul]
  change { s.opened with
    oracle := (s.oracle.after 1).after (s.beforeWrite + 4),
    tr := { s.opened.tr with
      rxq := [], txq := [],
      wire := s.tr.wire ++ ((s.oracle.ahead 0).leftover ++ frameOf s.cfg.probeCmd []) } } = _
  rw [horacle, ← List.append_assoc, ← List.flatten_singleton (l := frameOf s.cfg.probeCmd [])]
  rfl

/-- Each further silent probe adds its frame. -/
theorem afterSilentProbes_silentProbe (s : State) (j : Nat) :
    (s.afterSilentProbes j).silentProbe = s.afterSilentProbes (j + 1) := by
  have horacle : (s.oracle.after (1 + j * (s.beforeWrite + 4))).after (s.beforeWrite + 4) =
      s.oracle.after (1 + (j + 1) * (s.beforeWrite + 4)) := by
    rw [oracle_after_after, Nat.add_assoc, Nat.succ_mul]
  have hframes : (List.replicate j (frameOf s.cfg.probeCmd [])).flatten ++
      frameOf s.cfg.probeCmd [] = (List.replicate (j + 1) (frameOf s.cfg.probeCmd [])).flatten := by
    rw [List.replicate_succ', List.flatten_concat]
  change { s.afterSilentProbes j with
    oracle := (s.oracle.after (1 + j * (s.beforeWrite + 4))).after (s.beforeWrite + 4),
    tr := { (s.afterSilentProbes j).tr with
      wire := s.tr.wire ++ (s.oracle.ahead 0).leftover ++
        (List.replicate j (frameOf s.cfg.probeCmd [])).flatten ++ frameOf s.cfg.probeCmd [] } } = _
  rw [horacle, List.append_assoc _ (List.flatten _), hframes]
  rfl

theorem State.probeBound_le (s : State) : s.probeBound ≤ 15 := Machine.probeBound_le s.control

/-- The attempts that the bound allows are counted without overflow (R30, R37). -/
theorem attempt_toNat {s : State} {j : Nat} (h : j ≤ s.probeBound) :
    (BitVec.ofNat 4 j).toNat = j :=
  Nat.mod_eq_of_lt (by have := s.probeBound_le; omega)

/-- A probe takes seven transitions, sleep or `Open` included; the `j`-th unanswered one leads to the
next sleep or, as the last one, to the close (R205 to R207). -/
theorem run_silentProbes {s : State} (n : BitVec 4) (cmd : Byte) (g : Ignored)
    (hprobe : s.cfg.probeEn = true) (hn : s.cfg.probeArity ≠ 0) {j : Nat} (hpos : 1 ≤ j)
    (hj : j ≤ s.probeBound) (h : s.SilentFor (1 + j * (s.beforeWrite + 4))) :
    (s.connectOpening n cmd g).run (7 * j) =
      ((s.afterSilentProbes j).probing (BitVec.ofNat 4 j) 4).goto
        (if s.probeBound ≤ j then .closing else .probeSleep) := by
  induction j, hpos using Nat.le_induction with
  | base =>
    obtain ⟨hf, ha⟩ := h 0 (by omega)
    have hsilent : s.opened.SilentFor (s.beforeWrite + 4) :=
      (h.mono (by omega)).after (j := 1) rfl
    rw [show 7 * 1 = 2 + 5 from rfl, run_add, run_connectOpening n cmd g hprobe hf,
      run_probe_silent (e := s.opened) 1 0 hn rfl ha hsilent, opened_silentProbe]
    rfl
  | succ j hpos ih =>
    have hsleep : ¬ s.probeBound ≤ j := by omega
    rw [Nat.succ_mul] at h
    have hsilent : (s.afterSilentProbes j).SilentFor (s.beforeWrite + 4) :=
      (h.mono (by omega)).after (j := 1 + j * (s.beforeWrite + 4)) rfl
    rw [show 7 * (j + 1) = 7 * j + (2 + 5) from rfl, run_add, ih (by omega) (h.mono (by omega)),
      if_neg hsleep, run_add, run_probeSleep,
      run_probe_silent (e := s.afterSilentProbes j) _ 4 hn rfl rfl hsilent, attempt_toNat hj,
      afterSilentProbes_silentProbe]
    rfl

/-- Settles O60: the silent probes are followed by an answered one. -/
theorem connectLaterProbeAnswered : Obligations.ConnectLaterProbeAnswered := by
  intro n cmd g j s hs hsess hprobe hn hn9 hpos hj hsilent hg hr
  have hbound := s.probeBound_le
  have harity := probeArity_of_legal hn9
  have hsome : s.cfg.probeArity ≠ 0 := probeArity_ne_zero hn hn9
  rw [← harity] at hr ⊢
  have hrun : (s.connectOpening n cmd g).run (7 * j + (2 + 5)) =
      { (s.afterSilentProbes j).xferDone s.probeLatch with
        attempt := BitVec.ofNat 4 (j + 1), sess := true } := by
    rw [run_add, run_silentProbes n cmd g hprobe hsome hpos hj.le hsilent, if_neg (by omega),
      run_add, run_probeSleep, run_probe_answered (e := s.afterSilentProbes j) _ 4 hsome hg hr]
    rfl
  exact exec_connect_of_run hs hsess (by unfold opTicks; omega) hrun rfl rfl

/-- The close that follows the last failed attempt (R206, R209). -/
theorem tick_closing_exhausted {u : State} (hq : u.seq = .closing) (hop : u.d.op = opConnect)
    (ha : u.attempt ≠ 0) : u.tick = u.closed.failWith .connectFailed := by
  rw [tick_closing hq, State.tickClose]
  exact (if_pos hop).trans (if_neg ha)

/-- Closing a transport that holds no bytes puts none on the wire. -/
theorem closed_of_drained {e : State} (htx : e.tr.txq = []) (hsess : e.sess = false) :
    e.closed = { e with
      oracle := e.oracle.after 1, tr := { e.tr with isOpen := false, txq := [], rxq := [] } } := by
  rw [State.closed, htx, List.take_nil, List.append_nil, ← hsess]

/-- Settles O36: every attempt stays unanswered, and the close follows the last one. -/
theorem connectExhaustsProbes : Obligations.ConnectExhaustsProbes := by
  intro n cmd g s hs hsess hprobe hn hn9 hsilent
  have hbound := s.probeBound_le
  have hpos : 1 ≤ s.probeBound := probeBound_pos s.control
  have hattempt : BitVec.ofNat 4 s.probeBound ≠ 0 := by
    intro h
    have hcount : (0 : BitVec 4).toNat = s.probeBound := h ▸ attempt_toNat le_rfl
    exact absurd (hcount ▸ hpos) (by decide)
  have hsilent' : s.SilentFor (2 + s.probeBound * (s.beforeWrite + 4)) := hsilent
  let e := s.afterSilentProbes s.probeBound
  have horacle : e.oracle.after 1 = s.oracle.after (2 + s.probeBound * (s.beforeWrite + 4)) := by
    rw [show e.oracle = s.oracle.after (1 + s.probeBound * (s.beforeWrite + 4)) from rfl,
      oracle_after_after]
    congr 1
    omega
  let u := e.probing (BitVec.ofNat 4 s.probeBound) 4
  have hrun : (s.connectOpening n cmd g).run (7 * s.probeBound + 1) =
      u.closed.failWith .connectFailed := by
    rw [run_add, run_silentProbes n cmd g hprobe (probeArity_ne_zero hn hn9) hpos le_rfl
      (hsilent'.mono (by omega)), if_pos le_rfl, run_succ rfl, State.run]
    exact tick_closing_exhausted (u := u.goto .closing) rfl rfl hattempt
  rw [closed_of_drained (e := u) rfl hsess] at hrun
  rw [exec_connect_of_run hs hsess (by unfold opTicks; omega) hrun rfl rfl,
    ← probeArity_of_legal hn9, ← horacle]
  rfl

end Sys2Proof.Machine
end

section
/-! SUPPORT. How an operation is over, whatever the environment does: what completion leaves of the
results and the transport, and the ends that a `CONNECT` can have (R178, R206, R262). -/

namespace Sys2Proof.Machine

/-! ### Completion -/

/-- An operation that is over has raised `done`; if it failed its results are zero, and if the failure
is that of a `CONNECT` whose probes all failed the transport is closed (R46, R206, R262). -/
def State.Concluded (s : State) : Prop :=
  s.seq = .idle → s.done = true ∧ (s.ok = false → s.f = zeroFile) ∧
    (s.err = .connectFailed → s.tr.isOpen = false)

theorem concluded_of_busy {s : State} (hq : s.seq ≠ .idle) : s.Concluded := fun h => absurd h hq

theorem succeed_concluded (s : State) : s.succeed.Concluded := fun _ => ⟨rfl, nofun, nofun⟩

theorem failWith_concluded (s : State) {k : Err} (h : k = .connectFailed → s.tr.isOpen = false) :
    (s.failWith k).Concluded :=
  fun _ => ⟨rfl, fun _ => rfl, h⟩

theorem exchangeSucceeds_concluded (s : State) : s.exchangeSucceeds.Concluded := by
  unfold State.exchangeSucceeds
  split
  · exact succeed_concluded _
  · exact succeed_concluded _

theorem exchangeFails_concluded (s : State) {k : Err} (hk : k ≠ .connectFailed) :
    (s.exchangeFails k).Concluded := by
  unfold State.exchangeFails
  split
  · split
    · exact concluded_of_busy nofun
    · exact concluded_of_busy nofun
  · exact failWith_concluded s fun h => absurd h hk

theorem tickEncode_concluded (s : State) : s.tickEncode.Concluded := by
  unfold State.tickEncode
  split
  · exact succeed_concluded _
  · exact concluded_of_busy nofun

theorem tickPreclear_concluded (s : State) : s.tickPreclear.Concluded := by
  unfold State.tickPreclear
  split
  · split
    · exact concluded_of_busy nofun
    · exact exchangeFails_concluded _ nofun
  · exact concluded_of_busy nofun

theorem tickTx_concluded (s : State) : s.tickTx.Concluded := by
  unfold State.tickTx
  split
  · exact concluded_of_busy nofun
  · exact exchangeFails_concluded _ nofun

theorem tickTxDrain_concluded (s : State) : s.tickTxDrain.Concluded := by
  unfold State.tickTxDrain
  split
  · exact exchangeFails_concluded _ nofun
  · split
    · exact succeed_concluded _
    · split
      · exact exchangeSucceeds_concluded _
      · exact concluded_of_busy nofun

theorem tickRxWait_concluded (s : State) : s.tickRxWait.Concluded := by
  unfold State.tickRxWait
  split
  · exact exchangeFails_concluded _ nofun
  · split
    · exact concluded_of_busy nofun
    · exact concluded_of_busy nofun

theorem tickOpen_concluded (s : State) : s.tickOpen.Concluded := by
  unfold State.tickOpen
  split
  · exact failWith_concluded _ nofun
  · split
    · exact concluded_of_busy nofun
    · exact succeed_concluded _

theorem tickClose_concluded (s : State) : s.tickClose.Concluded := by
  unfold State.tickClose
  split
  · split
    · exact concluded_of_busy nofun
    · exact failWith_concluded _ fun _ => rfl
  · exact succeed_concluded _

/-- Where a transition ends an operation, the operation is concluded. -/
theorem tick_concluded {s : State} (hr : s.seq.resting = false) : s.tick.Concluded := by
  unfold State.tick
  cases hq : s.seq with
  | idle | fatal => rw [hq] at hr; contradiction
  | encode => exact tickEncode_concluded s
  | preclear => exact tickPreclear_concluded s
  | tx => exact tickTx_concluded s
  | txDrain => exact tickTxDrain_concluded s
  | rxWait => exact tickRxWait_concluded s
  | decode => exact exchangeSucceeds_concluded _
  | resync => exact exchangeFails_concluded _ nofun
  | opening => exact tickOpen_concluded s
  | probeSleep => exact concluded_of_busy nofun
  | closing => exact tickClose_concluded s

theorem run_concluded (k : Nat) {s : State} (h : s.Concluded) : (s.run k).Concluded := by
  induction k generalizing s with
  | zero => exact h
  | succ k ih =>
    cases hr : s.seq.resting with
    | true => rwa [run_resting hr]
    | false =>
      rw [run_succ hr]
      exact ih (tick_concluded hr)

theorem pursue_concluded {s : State} (h : s.Concluded) : s.pursue.Concluded := by
  have hrun := run_concluded (s.burst.getD opTicks) h
  unfold State.pursue
  rcases settle_cases (s.run (s.burst.getD opTicks)) with ⟨-, he⟩ | ⟨-, he⟩ | ⟨-, p, -, he⟩ <;>
    rw [he] <;> exact hrun

/-! ### The ends of a `CONNECT` -/

/-- The three ways a `CONNECT` can end (R202 to R206). -/
def Control.ConnectEnd (c : Control) : Prop :=
  (c.ok = true ∧ c.err = .noError ∧ c.sess = true) ∨
  (c.ok = false ∧ c.sess = false ∧ c.err = .transportFault ∧ c.attempt = 0) ∨
  (c.ok = false ∧ c.sess = false ∧ c.err = .connectFailed ∧ c.attempt.toNat = c.probeBound)

/-- What holds of the control part from the acceptance of a `CONNECT` to its end. -/
structure Control.Connecting (c : Control) : Prop where
  orderly : c.Orderly
  connects : c.op = opConnect
  live : c.fatal = false
  bounded : c.attempt.toNat ≤ c.probeBound
  /-- Only an old session is open, and that only until it is closed (R201, R210). -/
  sess_closed : c.seq ≠ .idle → c.seq ≠ .closing → c.sess = false
  /-- The close is that of an old session, or follows the last attempt (R201, R206). -/
  exhausted : c.seq = .closing → c.attempt ≠ 0 → c.attempt.toNat = c.probeBound
  ended : c.seq = .idle → c.ConnectEnd

theorem Control.Connecting.midway {c : Control} (ho : c.Orderly) (hop : c.op = opConnect)
    (hf : c.fatal = false) (hb : c.attempt.toNat ≤ c.probeBound) (hs : c.sess = false)
    (hi : c.seq ≠ .idle) (hq : c.seq ≠ .closing) : c.Connecting :=
  ⟨ho, hop, hf, hb, fun _ _ => hs, fun h => absurd h hq, fun h => absurd h hi⟩

theorem Control.Connecting.over {c : Control} (ho : c.Orderly) (hop : c.op = opConnect)
    (hf : c.fatal = false) (hb : c.attempt.toNat ≤ c.probeBound) (hq : c.seq = .idle)
    (hend : c.ConnectEnd) : c.Connecting :=
  ⟨ho, hop, hf, hb, fun h => absurd hq h, fun h => by rw [hq] at h; contradiction, fun _ => hend⟩

theorem ne_of_not_resting {q : Seq} (h : q.resting = false) : q ≠ .idle := by
  rintro rfl
  contradiction

theorem moves_connecting {c c' : Control} (h : c.Moves c') (hc : c.Connecting) :
    c'.Connecting := by
  have ho := moves_orderly h
  obtain ⟨hold, hop, hf, hb, hsess, hexhausted, -⟩ := hc
  have hidle : c.seq ≠ .idle := ne_of_not_resting (moves_not_resting h)
  have hbound := probeBound_le c
  have hs {q : Seq} (hq : c.seq = q) (hne : q ≠ .closing) : c.sess = false :=
    hsess hidle (hq ▸ hne)
  have hsx (hq : c.seq.inExchange = true) : c.sess = false :=
    hsess hidle (by intro h'; rw [h'] at hq; contradiction)
  cases h with
  | forward q hq =>
    obtain ⟨hp, hq'⟩ := leadsTo_inExchange hq
    exact .midway ho hop hf hb (hsx hp) (fun h : q = _ => by rw [h] at hq'; contradiction)
      (fun h : q = _ => by rw [h] at hq'; contradiction)
  | succeeds _ hne | fails _ _ hne | disconnects _ hne => exact absurd hop hne
  | answered => exact .over ho hop hf hb rfl (.inl ⟨rfl, rfl, rfl⟩)
  | retries hq => exact .midway ho hop hf hb (hsx hq) nofun nofun
  | exhausts hq _ hlast =>
    exact ⟨ho, hop, hf, hb, fun _ h => absurd rfl h, fun _ _ => hb.antisymm hlast, nofun⟩
  | wakes hq =>
    have hlt := hold.sleep_bound hq
    have hcount : (c.attempt + 1).toNat ≤ c.probeBound := by
      rw [attempt_succ hlt]
      omega
    exact .midway ho hop hf hcount (hs hq nofun) nofun nofun
  | openFaults hq =>
    exact .over ho hop hf hb rfl (.inr (.inl ⟨rfl, hs hq nofun, rfl, hold.open_first hq⟩))
  | probes hq =>
    have hcount : (c.attempt + 1).toNat ≤ c.probeBound := by
      rw [hold.open_first hq]
      exact probeBound_pos c
    exact .midway ho hop hf hcount (hs hq nofun) nofun nofun
  | opens => exact .over ho hop hf hb rfl (.inl ⟨rfl, rfl, rfl⟩)
  | reopens => exact .midway ho hop hf hb rfl nofun nofun
  | givesUp hq _ ha =>
    exact .over ho hop hf hb rfl (.inr (.inr ⟨rfl, rfl, rfl, hexhausted hq ha⟩))

/-- A `CONNECT` at its first sequencer state, in a session or not. -/
theorem startConnect_connecting {s : State} (hop : s.d.op = opConnect) (hf : s.fatal = false) :
    s.startConnect.control.Connecting := by
  unfold State.startConnect
  cases hsess : s.sess with
  | true =>
    exact ⟨.of_plain nofun nofun nofun nofun, hop, hf, Nat.zero_le _, fun _ h => absurd rfl h,
      fun _ h => absurd rfl h, nofun⟩
  | false =>
    exact .midway ⟨nofun, nofun, fun _ => hop, fun _ => rfl, nofun⟩ hop hf (Nat.zero_le _) hsess
      nofun nofun

theorem startConnect_cfg (s : State) : s.startConnect.cfg = s.cfg := by
  unfold State.startConnect
  split <;> rfl

theorem startConnect_burst (s : State) : s.startConnect.burst = s.burst := by
  unfold State.startConnect
  split <;> rfl

theorem startConnect_concluded (s : State) : s.startConnect.Concluded := by
  unfold State.startConnect
  split
  · exact concluded_of_busy nofun
  · exact concluded_of_busy nofun

/-- Not looked at before its end, an orderly operation comes to rest. -/
theorem pursue_rests {s : State} (hc : s.control.Orderly) (hb : s.burst = none) :
    s.pursue.seq.resting = true := by
  have hend : s.pursue.control = (s.run opTicks).control := by
    rw [State.pursue, settle_control, hb]
    rfl
  exact (congrArg (fun c => c.seq.resting) hend).trans
    (run_rests opTicks hc (ticksLeft_le_opTicks s.control))

theorem Control.Connecting.idle_of_resting {c : Control} (h : c.Connecting)
    (hr : c.seq.resting = true) : c.seq = .idle := by
  cases hq : c.seq with
  | idle => rfl
  | fatal => exact absurd (h.live.symm.trans (h.orderly.fatal_set hq)) (by decide)
  | encode | preclear | tx | txDrain | rxWait | decode | resync | opening | probeSleep | closing =>
    rw [hq] at hr
    contradiction

/-- Settles O37: a `CONNECT` comes to rest in one of its ends, and is then concluded. -/
theorem connectOutcome : Obligations.ConnectOutcome := by
  intro n cmd g s ⟨hr, hb⟩
  obtain ⟨-, hlive⟩ := (ready_iff s).1 hr
  let u := (s.accept (latchIgnored opConnect n cmd g) none).startConnect
  have hburst : u.burst = none := (startConnect_burst _).trans hb
  have hstart : u.control.Connecting := startConnect_connecting rfl hlive
  have hreaches : u.control.Reaches u.pursue.control := pursue_reaches u
  have hend : u.pursue.control.Connecting :=
    hreaches.keeps (P := Control.Connecting) (fun _ _ => moves_connecting) hstart
  have hcfg : u.pursue.cfg = s.cfg :=
    hreaches.keeps (P := fun c => c.cfg = s.cfg) (fun _ _ hm hc => (moves_cfg hm).trans hc)
      (startConnect_cfg _)
  have hidle : u.pursue.seq = .idle := hend.idle_of_resting (pursue_rests hstart.orderly hburst)
  obtain ⟨hdone, hzero, hclosed⟩ := pursue_concluded (startConnect_concluded _) hidle
  have hbound : u.pursue.probeBound = s.probeBound :=
    congrArg (fun c : Cfg => max 1 c.probeAttempts.toNat) hcfg
  refine ⟨u.pursue, exec_connect_ready n cmd g hr, hend.orderly.idle_free hidle, hdone, hend.live,
    hcfg, ?_⟩
  rw [← hbound]
  rcases hend.ended hidle with ⟨hok, herr, hsess⟩ | ⟨hok, hsess, herr, hnone⟩ |
    ⟨hok, hsess, herr, hall⟩
  · exact .inl ⟨hok, herr, hsess, hend.bounded⟩
  · exact .inr (.inl ⟨hok, hsess, hzero hok, herr, hnone⟩)
  · exact .inr (.inr ⟨hok, hsess, hzero hok, herr, hall, hclosed herr⟩)

end Sys2Proof.Machine
end

section
/-! The obligations on the transforms that drop the fraction and that acknowledge (R229, R230). -/

namespace Sys2Proof.Machine

/-! ### `trunc` -/

theorem truncWithin_none {w : F32} (h : f32Value w = none) (lo hi : Int) :
    truncWithin lo hi w = .noValue := by
  rw [truncWithin, h]

theorem truncWithin_some {w : F32} {x : FiniteF32} (h : f32Value w = some x) (lo hi : Int) :
    truncWithin lo hi w = if x.within lo hi then .int x.truncated else .noValue := by
  rw [truncWithin, h]

/-- The integer `m` with the magnitude in `[m, m+1)` is what dropping the fraction leaves (R229). -/
theorem truncated_of_bounds {x : FiniteF32} {m : Nat} (hlow : m * 2 ^ x.down ≤ x.mant * 2 ^ x.up)
    (hhigh : x.mant * 2 ^ x.up < (m + 1) * 2 ^ x.down) : x.truncated = signed x.neg m :=
  congrArg (signed x.neg) (Nat.div_eq_of_lt_le hlow hhigh)

/-- Settles O45: the magnitude's bounds determine the quotient, and `within` tests the value itself. -/
theorem truncDropsTheFraction : Obligations.TruncDropsTheFraction := by
  refine fun lo hi w => ⟨fun h => truncWithin_none h lo hi, fun x m h hlow hhigh => ?_⟩
  rw [truncWithin_some h, truncated_of_bounds hlow hhigh]
  simp only [FiniteF32.within, decide_eq_true_eq]

/-! ### `ack` -/

theorem ackOf_none {w : F32} (h : f32Value w = none) : ackOf w = false := by
  rw [ackOf, h]

theorem ackOf_some {w : F32} {x : FiniteF32} (h : f32Value w = some x) :
    ackOf w = true ↔ x.nearest 1 = 1 := by
  rw [ackOf, h, decide_eq_true_eq]

/-- Only a positive sign gives a positive integer. -/
theorem signed_eq_one_iff (neg : Bool) (m : Nat) : signed neg m = 1 ↔ neg = false ∧ m = 1 := by
  cases neg with
  | false => simp [signed]
  | true => simp [signed]; omega

/-- A ratio rounds to 1 exactly strictly between a half and three halves: both ties go to an even
number (R227, R230). -/
theorem roundHalfEven_eq_one_iff {num den : Nat} (hden : 0 < den) :
    roundHalfEven num den = 1 ↔ den < 2 * num ∧ 2 * num < 3 * den := by
  obtain ⟨hbelow, habove, htie⟩ := roundHalfEven_spec (num := num) hden
  constructor
  · intro hone
    rw [hone] at hbelow habove htie
    omega
  · rintro ⟨hhalf, hthree⟩
    have hpos : roundHalfEven num den ≠ 0 := by
      intro hzero
      rw [hzero] at habove
      omega
    have hlt : roundHalfEven num den < 2 := by
      by_contra htwo
      have hmul := Nat.mul_le_mul_right den (Nat.not_lt.1 htwo)
      omega
    omega

/-- Settles O46: the value rounds to 1, both ends of the interval being ties that round to 0 and 2. -/
theorem ackIsAboveHalfBelowThreeHalves : Obligations.AckIsAboveHalfBelowThreeHalves := by
  refine ⟨fun w => ackOf_none, fun w x h => ?_⟩
  rw [ackOf_some h, FiniteF32.nearest, signed_eq_one_iff, mul_one,
    roundHalfEven_eq_one_iff (Nat.two_pow_pos x.down)]

end Sys2Proof.Machine
end

section
/-! SUPPORT. A typed call beside the `XFER` of its row: the exchange is the same, and the call returns
the transformed results of its end (R222). -/

namespace Sys2Proof.Machine

/-! ### The exchange is over when the call returns -/

/-- No transition makes the block fatal: only an ill-formed descriptor does (R258). -/
theorem moves_fatal {c c' : Control} (h : c.Moves c') : c'.fatal = c.fatal := by
  cases h <;> rfl

theorem starts_fatal {c c' : Control} (h : c.Starts c') : c'.fatal = c.fatal := by
  cases h <;> rfl

theorem startXfer_starts (s : State) (n : Nat) (cmd : Byte) (p : List Byte) (c : Option Pending) :
    s.control.Starts (s.accept (xferLatch n cmd p) c).startXfer.control := by
  unfold State.startXfer
  split
  · exact .exchange opXfer .encode (by decide) (.inl rfl)
  · exact .fails opXfer .transportUnavailable

/-- An operation started by a ready block and not looked at has completed at its end. -/
theorem run_opTicks_idle {s x : State} (hr : s.ready = true) (hx : s.control.Starts x.control) :
    (x.run opTicks).busy = false := by
  obtain ⟨-, hlive⟩ := (ready_iff s).1 hr
  have hreaches := run_reaches opTicks x
  have horderly := starts_orderly hx
  have hend : (x.run opTicks).fatal = false :=
    hreaches.keeps (P := fun c => c.fatal = false) (fun _ _ hm hc => (moves_fatal hm).trans hc)
      ((starts_fatal hx).trans hlive)
  have hrests := run_rests opTicks horderly (ticksLeft_le_opTicks x.control)
  rcases resting_done (reaches_orderly hreaches horderly) hrests with hidle | hfatal
  · exact hidle
  · exact absurd (hfatal.symm.trans hend) (by decide)

/-! ### The caller -/

/-- The same state with a typed call to serve (R222). -/
def State.calledBy (s : State) (d : Pending) : State := { s with call := some d }

theorem run_calledBy (k : Nat) (s : State) (d : Pending) :
    (s.calledBy d).run k = (s.run k).calledBy d := by
  obtain ⟨hi, hb, -, hr⟩ := run_outside k s
  calc (s.calledBy d).run k
      = (s.run k).facing s.inputs s.burst (some d) s.ret := run_facing s s.inputs s.burst (some d) s.ret k
    _ = (s.run k).calledBy d := by rw [← hi, ← hb, ← hr]; rfl

/-- A completed operation returns to its caller the success flag and the transformed results (R222). -/
theorem settle_calledBy {s : State} (hb : s.busy = false) (d : Pending) :
    (s.calledBy d).settle = s.returned (typedResult d s.ok s.f) := by
  rcases settle_cases (s.calledBy d) with ⟨hbusy, -⟩ | ⟨hnone, -⟩ | ⟨-, d', hd, h⟩
  · exact absurd (hbusy.symm.trans hb) (by decide)
  · contradiction
  · cases hd
    exact h

theorem startXfer_calledBy (s : State) (l : Latch) (d : Pending) :
    (s.accept l (some d)).startXfer = (s.accept l none).startXfer.calledBy d := by
  unfold State.startXfer
  rw [apply_ite (State.calledBy · d)]
  rfl

theorem startXfer_call (s : State) : s.startXfer.call = s.call := by
  unfold State.startXfer
  split <;> rfl

theorem startXfer_burst (s : State) : s.startXfer.burst = s.burst := by
  unfold State.startXfer
  split <;> rfl

/-- Without a caller the settled end of a run is its end. -/
theorem settle_run_uncalled {x : State} (hc : x.call = none) (k : Nat) :
    (x.run k).settle = x.run k := by
  obtain ⟨-, -, hcall, -⟩ := run_outside k x
  simp [State.settle, hcall, hc]

theorem issueXfer_wellFormed {s : State} {n : Nat} {p : List Byte} (hp : p.length ≤ 255) (hn : n ≤ 9)
    (hr : s.ready = true) (cmd : Byte) (c : Option Pending) :
    s.issueXfer n cmd p c = (s.accept (xferLatch n cmd p) c).startXfer.pursue := by
  have hwf : (payloadFits p && decide (n ≤ Config.nMax)) = true := by
    simp [payloadFits, Config.nMax, hp, hn]
  rw [State.issueXfer, hwf, submit_wellFormed hr]

/-- A well-formed `XFER` from rest that serves a typed call ends as it does without one, and the call
returns its outcome (R222). -/
theorem issueXfer_returns {s t : State} {n : Nat} {cmd : Byte} {p : List Byte} (hp : p.length ≤ 255)
    (hn : n ≤ 9) (hs : s.AtRest) (ht : exec (.xfer n cmd p) s = .next t) (d : Pending) :
    s.issueXfer n cmd p (some d) = t.returned (typedResult d t.ok t.f) := by
  obtain ⟨hr, hb⟩ := hs
  let x := (s.accept (xferLatch n cmd p) none).startXfer
  have hburst : x.burst = none := (startXfer_burst _).trans hb
  have hend : x.run opTicks = t := by
    have hpursue := (exec_xfer_ready cmd hp hn hr).symm.trans ht
    rw [State.pursue, hburst, Option.getD_none, settle_run_uncalled (startXfer_call _)] at hpursue
    exact Host.Outcome.next.inj hpursue
  have hidle : t.busy = false := hend ▸ run_opTicks_idle hr (startXfer_starts s n cmd p none)
  calc s.issueXfer n cmd p (some d)
      = (x.calledBy d).pursue := by
        rw [issueXfer_wellFormed hp hn hr, startXfer_calledBy]
    _ = ((x.run opTicks).calledBy d).settle := by
        rw [State.pursue, run_calledBy, show (x.calledBy d).burst = none from hburst]
        rfl
    _ = t.returned (typedResult d t.ok t.f) := by rw [hend, settle_calledBy hidle]

/-! ### The values returned -/

/-- The first registers of the loaded file are the values loaded (R142). -/
theorem loadFile_take (f : Vector F32 9) {v : List F32} (hv : v.length ≤ 9) :
    (loadFile f v).toList.take v.length = v := by
  have hget (i : Nat) (hi : i < 9) : (loadFile f v)[i] = v.getD i f[i] := by
    interval_cases i <;> rfl
  apply List.ext_getElem
  · simp [hv]
  · intro i _ hi
    rw [List.getElem_take, Vector.getElem_toList, hget i (by omega), List.getD_eq_getElem _ _ hi]

/-- A full read takes `n` values (R141, R181 (4)). -/
theorem unpack_replyBytes_length {s : State} {n : Nat}
    (hr : ReadIsFull s.lTimeout s.atHand s.inWindow (4 * n)) : (unpack (s.replyBytes n)).length = n := by
  have hlen : (s.replyBytes n).length = 4 * n := take_length_of_full hr
  rw [(encodeFloatsUnpack (s.replyBytes n) (by omega)).2, hlen]
  omega

/-- A typed operation of a successful exchange returns the transforms of the reply's values (R222). -/
theorem typedResult_loadFile (t : Transform) (ok : Bool) {v : List F32} (hv : v.length ≤ 9) :
    typedResult { arity := v.length, transform := t } ok (loadFile zeroFile v) =
      { ok := ok, values := v.map (applyTransform t) } := by
  rw [typedResult, loadFile_take zeroFile hv]

/-- A typed operation of a failed exchange returns the transforms of zeros (R231). -/
theorem typedResult_zeroFile (t : Transform) (ok : Bool) {n : Nat} (hn : n ≤ 9) :
    typedResult { arity := n, transform := t } ok zeroFile =
      { ok := ok, values := List.replicate n (applyTransform t 0) } := by
  have hzero : zeroFile.toList = List.replicate 9 0 := rfl
  rw [typedResult, hzero, List.take_replicate, Nat.min_eq_left hn, List.map_replicate]

theorem round6_zero : round6 0 = .decimal 0 6 := by
  have hvalue : f32Value 0 = some { neg := false, mant := 0, up := 0, down := 149 } := by decide
  rw [round6, roundPlaces_some hvalue]
  simp [FiniteF32.nearest, signed, roundHalfEven]

end Sys2Proof.Machine
end

section
/-! The obligations on `readQuat` and `readRPY`. -/

namespace Sys2Proof.Machine

/-- A typed read from rest whose reply is whole returns the transformed values (R222, R181 (4)). -/
theorem issueXfer_read_full {s : State} {n : Nat} (cmd : Byte) (t : Transform) (hn : 1 ≤ n)
    (hn9 : n ≤ 9) (hs : s.AtRest) (hsess : s.sess = true) (hg : s.SendGoes)
    (hr : ReadIsFull s.lTimeout s.atHand s.inWindow (4 * n)) :
    s.issueXfer n cmd [] (some { arity := n, transform := t }) =
      { s.xferDone (xferLatch n cmd []) with
        ret := some { ok := true, values := (unpack (s.replyBytes n)).map (applyTransform t) } } := by
  have hcount := unpack_replyBytes_length hr
  have hfile : (s.xferDone (xferLatch n cmd [])).f = loadFile zeroFile (unpack (s.replyBytes n)) := by
    change loadFile zeroFile (unpack (s.replyBytes (xferLatch n cmd []).n.toNat)) = _
    rw [xferLatch_arity hn9]
  have hresult := typedResult_loadFile t true (hcount.trans_le hn9)
  rw [hcount] at hresult
  rw [issueXfer_returns (Nat.zero_le _) hn9 hs
    (exec_xfer_reply cmd (Nat.zero_le _) hn hn9 hs hsess hg hr), hfile]
  change State.returned _ (typedResult _ true _) = _
  rw [hresult]
  rfl

/-- A typed read from rest whose reply comes short returns the transforms of zeros (R222, R231). -/
theorem issueXfer_read_short {s : State} {n : Nat} (cmd : Byte) (t : Transform) (hn : 1 ≤ n)
    (hn9 : n ≤ 9) (hs : s.AtRest) (hsess : s.sess = true) (hg : s.SendGoes)
    (hr : ReadIsShort s.lTimeout s.atHand s.inWindow (4 * n))
    (hf : (s.oracle.ahead s.sendAnswers).fault = false) :
    s.issueXfer n cmd [] (some { arity := n, transform := t }) =
      { s.xferTimedOut (xferLatch n cmd []) with
        ret := some { ok := false, values := List.replicate n (applyTransform t 0) } } := by
  rw [issueXfer_returns (Nat.zero_le _) hn9 hs
    (xferShortIsTimeout n cmd [] s (Nat.zero_le _) hn hn9 hs hsess hg hr hf)]
  change State.returned _ (typedResult _ false zeroFile) = _
  rw [typedResult_zeroFile t false hn9]
  rfl

/-- Settles O41: both are typed reads whose transform is `round6`. -/
theorem typedReadsReturnValues : Obligations.TypedReadsReturnValues := by
  refine fun s hs hsess hg => ⟨fun hr => ?_, fun hr => ?_⟩
  · exact congrArg Host.Outcome.next
      (issueXfer_read_full 0x01 .round6 (by decide) (by decide) hs hsess hg hr)
  · exact congrArg Host.Outcome.next
      (issueXfer_read_full 0x02 .round6 (by decide) (by decide) hs hsess hg hr)

theorem applyTransform_round6_zero :
    applyTransform .round6 0 = deliver Config.resultFmt (.decimal 0 6) :=
  congrArg (deliver Config.resultFmt) round6_zero

/-- Settles O42: both are typed reads, and `round6` of a zero is 0. -/
theorem typedReadsFailWithZeros : Obligations.TypedReadsFailWithZeros := by
  intro s hs hsess hg hf
  rw [← applyTransform_round6_zero]
  refine ⟨fun hr => ?_, fun hr => ?_⟩
  · exact congrArg Host.Outcome.next
      (issueXfer_read_short 0x01 .round6 (by decide) (by decide) hs hsess hg hr hf)
  · exact congrArg Host.Outcome.next
      (issueXfer_read_short 0x02 .round6 (by decide) (by decide) hs hsess hg hr hf)

end Sys2Proof.Machine
end

section
/-! SUPPORT. The rows of the typed operation table, entry by entry of the registry (R220 to R222,
R225, R226). -/

namespace Sys2Proof.Machine

/-- The row has the id, the arity and the request length of this entry of the registry. -/
def TypedRow.Has (r : TypedRow) (e : RegEntry) : Prop :=
  registry r.cmd = some e ∧ r.arity = e.arity ∧ r.payload.length = e.shape.payloadSize

/-- A request shape gives as many payload bytes as it has (R96 to R98). -/
theorem shapePayload_length (sh : Shape) (slot : Slot) (a b c : F32) :
    (shapePayload sh slot a b c).length = sh.payloadSize := by
  cases sh <;> rfl

theorem payloadSize_fits (sh : Shape) : sh.payloadSize ≤ 255 := by
  cases sh <;> decide

/-- A command that admits one entry only has that entry. -/
theorem registry_cmdOf {c : CmdName} {e : RegEntry} (h : ∀ e', c.admits e' = decide (e' = e)) :
    registry (Config.cmdOf c) = some e := by
  have hadmits := admits_placeOf c
  rw [h, decide_eq_true_eq] at hadmits
  rw [← hadmits]
  exact registry_idAt _

/-- A command whose shape R222 leaves open has one value back. -/
theorem arity_of_open {c : CmdName}
    (h : ∀ e, c.admits e = (decide (e = .indexed) || decide (e = .read .one))) :
    1 = (Config.entryAt (Config.placeOf c)).arity := by
  have hadmits := admits_placeOf c
  rw [h, Bool.or_eq_true_iff, decide_eq_true_eq, decide_eq_true_eq] at hadmits
  rcases hadmits with he | he <;> rw [he] <;> rfl

/-- The row of a command whose shape R222 leaves open has the registry's entry for it. -/
theorem openRow_has {c : CmdName}
    (h : ∀ e, c.admits e = (decide (e = .indexed) || decide (e = .read .one)))
    (slot : Slot) (v : F32) (t : Transform) :
    TypedRow.Has ⟨Config.cmdOf c, openPayload c slot v, 1, t⟩ (Config.entryAt (Config.placeOf c)) :=
  ⟨registry_idAt _, arity_of_open h, shapePayload_length _ slot v 0 0⟩

/-- Every row of the typed operation table has an entry of the registry (R220, R225, R226). -/
theorem typedRow_has (op : TypedOp) : ∃ e, op.row.Has e := by
  cases op with
  | readQuat => exact ⟨.read .four, rfl, rfl, rfl⟩
  | readRPY => exact ⟨.read .three, rfl, rfl, rfl⟩
  | readAccel | readGyro | readMag =>
    exact ⟨.read .three, registry_cmdOf fun _ => rfl, rfl, rfl⟩
  | readAccelGyro => exact ⟨.read .six, registry_cmdOf fun _ => rfl, rfl, rfl⟩
  | readImuData => exact ⟨.read .nine, registry_cmdOf fun _ => rfl, rfl, rfl⟩
  | getFilterGain | getCutoff | setFilterGain | setI2CAddress | setWorldFrameId =>
    exact ⟨.indexed, registry_cmdOf fun _ => rfl, rfl, rfl⟩
  | getWorldFrameId => exact ⟨.read .one, registry_probeCmd, rfl, rfl⟩
  | getI2CAddress | resetParams | clearBuffer => exact ⟨_, openRow_has (fun _ => rfl) _ _ _⟩
  | writeOffset => exact ⟨.vector, registry_cmdOf fun _ => rfl, rfl, rfl⟩
  | writeVector k =>
    exact ⟨.vector, (registry_idAt _).trans (congrArg some (entryAt_vectorPlace k)), rfl, rfl⟩
  | magnetometer => exact ⟨_, registry_idAt _, rfl, shapePayload_length _ _ _ _ _⟩

/-- The request of every row is a legal `XFER` (R101, R164). -/
theorem typedRow_legal (op : TypedOp) : op.row.payload.length ≤ 255 ∧ op.row.arity ≤ 9 := by
  obtain ⟨e, -, harity, hlen⟩ := typedRow_has op
  rw [hlen, harity]
  exact ⟨payloadSize_fits e.shape, arity_le_nine e⟩

end Sys2Proof.Machine
end

section
/-! The obligation on typed calls. -/

namespace Sys2Proof.Machine

/-- A typed call presented to a ready block is issued by the next step (R222). -/
theorem step_call {s : State} {op : TypedOp} {rest : List Input} (hr : s.ready = true)
    (hi : s.inputs = .call op :: rest) :
    step s = .next ((s.pulseOver.inputsLeft rest).typedCall op) := by
  simp [step, fetch, hi, hr]

/-- What two states agree on that differ in the host's record of its calls at most. -/
theorem eq_of_uncalled_eq {α : Type} {t u : State} (h : t.uncalled = u.uncalled) (f : State → α)
    (hf : ∀ v, f v.uncalled = f v) : f t = f u := by
  rw [← hf, h, hf]

/-- From rest a typed call returns the outcome of the `XFER` of its row (R222). -/
theorem typedCall_returns {s : State} (hs : s.AtRest) (op : TypedOp) :
    (s.typedCall op).call = none ∧ (s.typedCall op).ret = some
      (typedResult { arity := op.row.arity, transform := op.row.transform } (s.typedCall op).ok
        (s.typedCall op).f) := by
  obtain ⟨hp, hn⟩ := typedRow_legal op
  rw [State.typedCall, issueXfer_returns hp hn hs rfl]
  exact ⟨rfl, rfl⟩

/-- Settles O43: the exchange does not see whom it serves, and its end is what the call returns; the
rows stand in the table, and each has its registry entry. -/
theorem typedCallIsOneExchange : Obligations.TypedCallIsOneExchange := by
  refine ⟨fun s op rest hr hi => ?_, fun _ _ => ⟨rfl, rfl, rfl, rfl⟩, fun _ _ _ _ _ => ?_, typedRow_has,
    rfl, rfl, rfl⟩
  · have hstep := step_call hr hi
    have hsame := issueXfer_uncalled (s.pulseOver.inputsLeft rest) op.row.arity op.row.cmd
      op.row.payload (some { arity := op.row.arity, transform := op.row.transform })
    have hreturns (hb : s.burst = none) :=
      typedCall_returns (s := s.pulseOver.inputsLeft rest) ⟨hr, hb⟩ op
    refine ⟨⟨_, _, hstep, rfl, eq_of_uncalled_eq hsame State.blockOnly fun _ => rfl,
      eq_of_uncalled_eq hsame State.tr fun _ => rfl, eq_of_uncalled_eq hsame State.oracle fun _ => rfl,
      hreturns⟩, ?_, ?_⟩
    · rintro rfl
      exact hstep
    · rintro rfl
      exact hstep
  · exact ⟨rfl, rfl, rfl, rfl, rfl, rfl, rfl, rfl, rfl, rfl, rfl, rfl, rfl, ⟨rfl, rfl⟩, ⟨rfl, rfl⟩,
      ⟨rfl, rfl⟩, rfl, rfl, rfl⟩

end Sys2Proof.Machine
end

section
/-! SUPPORT. How an operation other than `CONNECT` and `DISCONNECT` can end, whatever the environment
does: an exchange fails with `TIMEOUT` only where it reads a reply, and never with `CONNECT_FAILED`
(R173, R175, R256). -/

namespace Sys2Proof.Machine

/-- The operation of this descriptor reads a reply (R160 to R162, R170). -/
def Latch.Reads (l : Latch) : Prop := l.op ≠ opSend ∧ l.n ≠ 0

/-- An exchange of this descriptor is in progress, and it receives only where it reads a reply. -/
structure State.Serving (s : State) (l : Latch) : Prop where
  latched : s.d = l
  live : s.fatal = false
  exchanging : s.seq.inExchange = true
  reads : s.seq.inReceive = true → l.Reads

/-- The exchange of this descriptor is over, with an error kind that its operation can have (R256). -/
structure State.Served (s : State) (l : Latch) : Prop where
  idle : s.seq = .idle
  free : s.busy = false
  live : s.fatal = false
  not_connectFailed : s.err ≠ .connectFailed
  timeout_reads : s.err = .timeout → l.Reads

theorem State.Served.not_fatal {s : State} {l : Latch} (h : s.Served l) : ¬ s.fatal = true := by
  simp [h.live]

/-- What holds of a block from the acceptance of this descriptor to the end of its exchange. -/
def State.Serves (s : State) (l : Latch) : Prop := s.Serving l ∨ s.Served l

theorem State.Serves.orderly {s : State} {l : Latch} (h : s.Serves l) : s.control.Orderly := by
  rcases h with h | h
  · exact exchange_orderly h.exchanging
  · have hidle : s.control.seq = .idle := h.idle
    apply Control.Orderly.of_plain
    · exact fun _ => h.free
    all_goals rw [hidle]; exact nofun

/-! ### The ends of an exchange -/

section Transitions
variable {s : State} {l : Latch}

theorem succeed_serves (hf : s.fatal = false) : s.succeed.Serves l :=
  .inr ⟨rfl, rfl, hf, nofun, nofun⟩

theorem failWith_serves (k : Err) (hf : s.fatal = false) (hk : k ≠ .connectFailed)
    (ht : k = .timeout → l.Reads) : (s.failWith k).Serves l :=
  .inr ⟨rfl, rfl, hf, hk, ht⟩

theorem exchangeSucceeds_serves (hop : s.d.op ≠ opConnect) (hf : s.fatal = false) :
    s.exchangeSucceeds.Serves l := by
  rw [exchangeSucceeds_op hop]
  exact succeed_serves hf

theorem exchangeFails_serves (k : Err) (hop : s.d.op ≠ opConnect) (hf : s.fatal = false)
    (hk : k ≠ .connectFailed) (ht : k = .timeout → l.Reads) : (s.exchangeFails k).Serves l := by
  rw [exchangeFails_op hop]
  exact failWith_serves k hf hk ht

/-! ### The transitions of an exchange -/

theorem tickEncode_serves (h : s.Serving l) : s.tickEncode.Serves l := by
  unfold State.tickEncode
  split
  · exact succeed_serves h.live
  · exact .inl ⟨h.latched, h.live, rfl, nofun⟩

theorem tickPreclear_serves (hop : s.d.op ≠ opConnect) (h : s.Serving l) :
    s.tickPreclear.Serves l := by
  unfold State.tickPreclear
  split
  · rcases rxDiscard_cases s with ⟨-, hr⟩ | ⟨-, q, hr⟩ <;> rw [hr]
    · exact .inl ⟨h.latched, h.live, rfl, nofun⟩
    · exact exchangeFails_serves .transportFault hop h.live nofun nofun
  · exact .inl ⟨h.latched, h.live, rfl, nofun⟩

theorem tickTx_serves (hop : s.d.op ≠ opConnect) (h : s.Serving l) : s.tickTx.Serves l := by
  unfold State.tickTx
  rcases memWrite_cases s s.fb with ⟨-, hw⟩ | ⟨-, k, -, hw⟩ <;> rw [hw]
  · exact .inl ⟨h.latched, h.live, rfl, nofun⟩
  · exact exchangeFails_serves .transportFault hop h.live nofun nofun

/-- Only what reads a reply goes on to wait for one (R169, R170). -/
theorem tickTxDrain_serves (hop : s.d.op ≠ opConnect) (h : s.Serving l) :
    s.tickTxDrain.Serves l := by
  unfold State.tickTxDrain
  rcases txDrain_cases s with ⟨-, hd⟩ | ⟨-, k, hd⟩ <;> rw [hd]
  · dsimp only
    split
    · exact succeed_serves h.live
    case isFalse hsend =>
      split
      · exact exchangeSucceeds_serves hop h.live
      case isFalse hn =>
        have hreads : s.d.Reads := ⟨hsend, hn⟩
        exact .inl ⟨h.latched, h.live, rfl, fun _ => h.latched ▸ hreads⟩
  · exact exchangeFails_serves .transportFault hop h.live nofun nofun

theorem tickRxWait_serves (hop : s.d.op ≠ opConnect) (h : s.Serving l) (hr : l.Reads) :
    s.tickRxWait.Serves l := by
  unfold State.tickRxWait
  rcases memRead_cases s s.replySize with ⟨q, hm⟩ | ⟨b, q, -, hm⟩ <;> rw [hm]
  · exact exchangeFails_serves .transportFault hop h.live nofun nofun
  · dsimp only
    split
    · exact .inl ⟨h.latched, h.live, rfl, fun _ => hr⟩
    · exact .inl ⟨h.latched, h.live, rfl, fun _ => hr⟩

/-- The one transition that fails with `TIMEOUT` (R175). -/
theorem tickResync_serves (hop : s.d.op ≠ opConnect) (h : s.Serving l) (hr : l.Reads) :
    s.tickResync.Serves l := by
  unfold State.tickResync
  rcases rxDiscard_cases s with ⟨-, hx⟩ | ⟨-, q, hx⟩ <;> rw [hx] <;>
    exact exchangeFails_serves .timeout hop h.live nofun fun _ => hr

theorem tick_serves (hop : l.op ≠ opConnect) (h : s.Serving l) : s.tick.Serves l := by
  have hop' : s.d.op ≠ opConnect := h.latched ▸ hop
  have hx := h.exchanging
  have hr := h.reads
  cases hq : s.seq with
  | idle | opening | probeSleep | closing | fatal => rw [hq] at hx; contradiction
  | encode => exact tick_encode hq ▸ tickEncode_serves h
  | preclear => exact tick_preclear hq ▸ tickPreclear_serves hop' h
  | tx => exact tick_tx hq ▸ tickTx_serves hop' h
  | txDrain => exact tick_txDrain hq ▸ tickTxDrain_serves hop' h
  | rxWait => exact tick_rxWait hq ▸ tickRxWait_serves hop' h (hr (hq ▸ rfl))
  | decode => exact tick_decode hq ▸ exchangeSucceeds_serves (s := s.decoded) hop' h.live
  | resync => exact tick_resync hq ▸ tickResync_serves hop' h (hr (hq ▸ rfl))

end Transitions

/-! ### From the transitions to the operation -/

theorem run_serves (k : Nat) {s : State} {l : Latch} (hop : l.op ≠ opConnect) (h : s.Serves l) :
    (s.run k).Serves l := by
  induction k generalizing s with
  | zero => exact h
  | succ k ih =>
    rcases h with h | h
    · rw [run_succ (inExchange_not_resting h.exchanging)]
      exact ih (tick_serves hop h)
    · rw [run_resting (h.idle ▸ rfl)]
      exact .inr h

theorem settle_serves {s : State} {l : Latch} (h : s.Serves l) : s.settle.Serves l := by
  rcases settle_cases s with ⟨-, he⟩ | ⟨-, he⟩ | ⟨-, p, -, he⟩ <;> rw [he]
  · exact h
  · exact h
  · exact h.imp (fun h => { h with }) fun h => { h with }

/-- Not looked at before its end, an exchange ends with an error kind that its operation can have. -/
theorem pursue_served {u : State} {l : Latch} (hop : l.op ≠ opConnect) (h : u.Serves l)
    (hb : u.burst = none) : u.pursue.Served l := by
  have hrests : u.pursue.seq.resting = true := pursue_rests h.orderly hb
  have hend : u.pursue.Serves l := settle_serves (run_serves _ hop h)
  refine hend.resolve_left fun hgoing => ?_
  exact absurd (hrests.symm.trans (inExchange_not_resting hgoing.exchanging)) (by decide)

theorem startSend_serves {s : State} {l : Latch} (hf : s.fatal = false) :
    (s.accept l none).startSend.Serves l := by
  unfold State.startSend
  split
  · exact .inl ⟨rfl, hf, rfl, nofun⟩
  · exact failWith_serves .transportUnavailable hf nofun nofun

theorem startRecv_serves {s : State} {l : Latch} (hf : s.fatal = false) (hop : l.op ≠ opSend) :
    (s.accept l none).startRecv.Serves l := by
  unfold State.startRecv
  split
  · exact failWith_serves .transportUnavailable hf nofun nofun
  · split
    · exact succeed_serves hf
    case isFalse hn => exact .inl ⟨rfl, hf, rfl, fun _ => ⟨hop, hn⟩⟩

theorem startXfer_serves {s : State} {l : Latch} (hf : s.fatal = false) :
    (s.accept l none).startXfer.Serves l := by
  unfold State.startXfer
  split
  · exact .inl ⟨rfl, hf, rfl, nofun⟩
  · exact failWith_serves .transportUnavailable hf nofun nofun

theorem startSend_burst (s : State) : s.startSend.burst = s.burst := by
  unfold State.startSend
  split <;> rfl

theorem startRecv_burst (s : State) : s.startRecv.burst = s.burst := by
  unfold State.startRecv
  split
  · rfl
  · split <;> rfl

/-! ### The well-formed descriptors -/

/-- What is known to execute to a state executes to no other. -/
theorem eq_of_exec_next {i : Instr} {s t u : State} (hu : exec i s = .next u)
    (h : exec i s = .next t) : u = t :=
  Host.Outcome.next.inj (hu.symm.trans h)

theorem live_of_atRest {s : State} (hs : s.AtRest) : s.fatal = false := ((ready_iff s).1 hs.1).2

theorem exec_send_served {s t : State} {n : BitVec 4} {cmd : Byte} {p : List Byte} (hs : s.AtRest)
    (hp : p.length ≤ 255) (h : exec (.send n cmd p) s = .next t) : t.Served (sendLatch n cmd p) := by
  obtain rfl := eq_of_exec_next (exec_send_ready n cmd hp hs.1) h
  exact pursue_served (l := sendLatch n cmd p) opSend_ne_opConnect
    (startSend_serves (live_of_atRest hs)) ((startSend_burst _).trans hs.2)

theorem exec_recv_served {s t : State} {n : Nat} {cmd : Byte} {g : Ignored} (hs : s.AtRest)
    (hn : n ≤ 9) (h : exec (.recv n cmd g) s = .next t) : t.Served (recvLatch n cmd g) := by
  obtain rfl := eq_of_exec_next (exec_recv_ready cmd g hn hs.1) h
  exact pursue_served (l := recvLatch n cmd g) opRecv_ne_opConnect
    (startRecv_serves (live_of_atRest hs) (by decide : opRecv ≠ opSend))
    ((startRecv_burst _).trans hs.2)

theorem exec_xfer_served {s t : State} {n : Nat} {cmd : Byte} {p : List Byte} (hs : s.AtRest)
    (hp : p.length ≤ 255) (hn : n ≤ 9) (h : exec (.xfer n cmd p) s = .next t) :
    t.Served (xferLatch n cmd p) := by
  obtain rfl := eq_of_exec_next (exec_xfer_ready cmd hp hn hs.1) h
  exact pursue_served (l := xferLatch n cmd p) (by decide : opXfer ≠ opConnect)
    (startXfer_serves (live_of_atRest hs)) ((startXfer_burst _).trans hs.2)

end Sys2Proof.Machine
end

section
/-! The obligation on the outcomes of the operations, one operation after the other (R250 to R256). -/

namespace Sys2Proof.Machine

section Outcomes
variable {s t : State}

theorem encode_outcome (hs : s.AtRest) {n : BitVec 4} {cmd : Byte} {p : List Byte}
    (h : exec (.encode n cmd p) s = .next t) :
    (p.length ≤ 255 ∧ t.ok = true ∧ t.fatal = false) ∨ (255 < p.length ∧ t.fatal = true) := by
  have hlive : s.fatal = false := live_of_atRest hs
  obtain ⟨hlong, -⟩ := illFormedDescriptorIsFatal s hs.1
  rcases Nat.lt_or_ge 255 p.length with hp | hp
  · obtain rfl := eq_of_exec_next (hlong n cmd p hp).1 h
    exact .inr ⟨hp, rfl⟩
  · obtain rfl := eq_of_exec_next (encodeWritesFrame n cmd p s hp hs) h
    exact .inl ⟨hp, rfl, hlive⟩

theorem encodeNp_outcome (hs : s.AtRest) {n : BitVec 4} {cmd : Byte} {g : Ignored}
    (h : exec (.encodeNp n cmd g) s = .next t) : t.ok = true ∧ t.fatal = false := by
  have hlive : s.fatal = false := live_of_atRest hs
  obtain rfl := eq_of_exec_next (encodeNpWritesFrame n cmd g s hs) h
  exact ⟨rfl, hlive⟩

theorem send_outcome (hs : s.AtRest) {n : BitVec 4} {cmd : Byte} {p : List Byte}
    (h : exec (.send n cmd p) s = .next t) :
    t.err ≠ .timeout ∧ t.err ≠ .connectFailed ∧ (t.fatal = true ↔ 255 < p.length) := by
  obtain ⟨hlong, -⟩ := illFormedDescriptorIsFatal s hs.1
  rcases Nat.lt_or_ge 255 p.length with hp | hp
  · obtain rfl := eq_of_exec_next (hlong n cmd p hp).2 h
    exact ⟨nofun, nofun, iff_of_true rfl hp⟩
  · have hend := exec_send_served hs hp h
    exact ⟨fun ht => (hend.timeout_reads ht).1 rfl, hend.not_connectFailed,
      iff_of_false hend.not_fatal (Nat.not_lt.2 hp)⟩

/-- A `RECV` of arity 0 calls no transport primitive, so that the session is all it can lack (R170). -/
theorem recv_zero_err (hs : s.AtRest) {cmd : Byte} {g : Ignored}
    (h : exec (.recv 0 cmd g) s = .next t) : t.err = .noError ∨ t.err = .transportUnavailable := by
  cases hsess : s.sess with
  | true =>
    obtain rfl := eq_of_exec_next (recvZeroReadsNothing cmd g s hs hsess) h
    exact .inl rfl
  | false =>
    obtain ⟨-, hrecv, -⟩ := noSessionIsUnavailable s hs hsess
    obtain rfl := eq_of_exec_next (hrecv 0 cmd g (Nat.zero_le 9)) h
    exact .inr rfl

theorem recv_outcome (hs : s.AtRest) {n : Nat} {cmd : Byte} {g : Ignored}
    (h : exec (.recv n cmd g) s = .next t) :
    t.err ≠ .connectFailed ∧ (t.fatal = true ↔ 9 < n) ∧
      (n = 0 → t.err ≠ .timeout ∧ t.err ≠ .transportFault) := by
  obtain ⟨-, -, hlarge, -⟩ := illFormedDescriptorIsFatal s hs.1
  rcases Nat.lt_or_ge 9 n with hn | hn
  · obtain rfl := eq_of_exec_next (hlarge n cmd g hn).1 h
    exact ⟨nofun, iff_of_true rfl hn, fun _ => ⟨nofun, nofun⟩⟩
  · have hend := exec_recv_served hs hn h
    refine ⟨hend.not_connectFailed, iff_of_false hend.not_fatal (Nat.not_lt.2 hn), ?_⟩
    rintro rfl
    rcases recv_zero_err hs h with he | he <;> rw [he] <;> exact ⟨nofun, nofun⟩

theorem xfer_outcome (hs : s.AtRest) {n : Nat} {cmd : Byte} {p : List Byte}
    (h : exec (.xfer n cmd p) s = .next t) :
    t.err ≠ .connectFailed ∧ (t.fatal = true ↔ 255 < p.length ∨ 9 < n) ∧
      (n = 0 → t.err ≠ .timeout) := by
  obtain ⟨-, hill, -⟩ := illFormedDescriptorIsFatal s hs.1
  by_cases hbad : 255 < p.length ∨ 9 < n
  · obtain rfl := eq_of_exec_next (hill n cmd p hbad) h
    exact ⟨nofun, iff_of_true rfl hbad, fun _ => nofun⟩
  · obtain ⟨hp, hn⟩ := not_or.1 hbad
    have hend := exec_xfer_served hs (Nat.not_lt.1 hp) (Nat.not_lt.1 hn) h
    refine ⟨hend.not_connectFailed, iff_of_false hend.not_fatal hbad, ?_⟩
    rintro rfl ht
    exact (hend.timeout_reads ht).2 rfl

theorem connect_outcome (hs : s.AtRest) {n : BitVec 4} {cmd : Byte} {g : Ignored}
    (h : exec (.connect n cmd g) s = .next t) :
    t.fatal = false ∧ t.err ≠ .timeout ∧ t.err ≠ .transportUnavailable := by
  obtain ⟨u, hu, -, -, hlive, -, hend⟩ := connectOutcome n cmd g s hs
  obtain rfl := eq_of_exec_next hu h
  refine ⟨hlive, ?_⟩
  rcases hend with ⟨-, he, -⟩ | ⟨-, -, -, he, -⟩ | ⟨-, -, -, he, -⟩ <;> rw [he] <;>
    exact ⟨nofun, nofun⟩

theorem disconnect_outcome (hs : s.AtRest) {n : BitVec 4} {cmd : Byte} {g : Ignored}
    (h : exec (.disconnect n cmd g) s = .next t) : t.ok = true ∧ t.fatal = false := by
  obtain ⟨hopen, hnone⟩ := disconnectEndsSession n cmd g s hs
  have hlive : s.fatal = false := live_of_atRest hs
  cases hsess : s.sess with
  | true =>
    obtain rfl := eq_of_exec_next (hopen hsess) h
    exact ⟨rfl, hlive⟩
  | false =>
    obtain rfl := eq_of_exec_next (hnone hsess) h
    exact ⟨rfl, hlive⟩

end Outcomes

/-- Settles O32: the outcomes of the seven operations. -/
theorem operationOutcomes : Obligations.OperationOutcomes := fun _ _ hs =>
  ⟨fun _ _ _ => encode_outcome hs, fun _ _ _ => encodeNp_outcome hs, fun _ _ _ => send_outcome hs,
    fun _ _ _ => recv_outcome hs, fun _ _ _ => xfer_outcome hs, fun _ _ _ => connect_outcome hs,
    fun _ _ _ => disconnect_outcome hs⟩

end Sys2Proof.Machine
end

section
/-! The obligation on the `reset` input (R290, R291): the step is the reset of the block, which gives the
block's own registers their reset values and only adds to the wire. -/

namespace Sys2Proof.Machine

theorem step_resetInput {s : State} {rest : List Input} (hi : s.inputs = .reset :: rest) :
    step s = .next (s.pulseOver.inputsLeft rest).resetBlock := by
  simp [step, fetch, hi]

section ResetBlock
variable (s : State)

@[simp] theorem resetBlock_inputs : s.resetBlock.inputs = s.inputs := rfl
@[simp] theorem resetBlock_cfg : s.resetBlock.cfg = Cfg.reset := rfl
@[simp] theorem resetBlock_call : s.resetBlock.call = none := rfl
@[simp] theorem resetBlock_blockOnly : s.resetBlock.blockOnly = State.reset.blockOnly := rfl

/-- The transport may send of `txq` and put more on the wire; both come after what is there (R291). -/
theorem resetBlock_wire :
    s.resetBlock.tr.wire = s.tr.wire ++ (s.tr.txq.take s.answer.sent ++ s.answer.wire) :=
  List.append_assoc _ _ _

end ResetBlock

/-- Settles O50: of the state before, a reset keeps what the environment and the host hold; nothing is
asked of the block. -/
theorem resetInputFromAnyState : Obligations.ResetInputFromAnyState := by
  intro s rest hi
  refine ⟨_, step_resetInput hi, ?inputs, ?block, ?wire, ?call⟩
  case inputs => rw [resetBlock_inputs, inputsLeft_inputs]
  case block =>
    rw [resetBlock_blockOnly, resetBlock_cfg]
    rfl
  case wire => exact ⟨_, (resetBlock_wire (s.pulseOver.inputsLeft rest)).symm⟩
  case call => exact resetBlock_call _

end Sys2Proof.Machine
end
